-- ==== Sys2Proof/Word.lean ====
section
/-! DEFINITION. The word types of the ADPCM decoder block (10_state.md R22, R34, R35) and nothing else. -/

namespace Sys2Proof

/-- One byte of the source (R60). -/
abbrev Byte := BitVec 8

/-- A 16-bit signed quantity: PRED, COEF1, COEF2, S1, S2 (R22). -/
abbrev Word16 := BitVec 16

/-- A 32-bit register or offset (R34, R35; D5). -/
abbrev Word32 := BitVec 32

/-- One PCM sample: SAMPLE_WIDTH is 16 bits, signed (R7). -/
abbrev Sample := BitVec 16

/-- A 4-bit code, the coded unit of every variant (R84, R85). -/
abbrev Code := BitVec 4

end Sys2Proof
end

