-- ==== Sys2Proof/Syntax.lean ====
section
/-! DEFINITION. The instructions: one constructor for every row of spec/opcode_table.json, and the names they speak of. -/

namespace Sys2Proof

/-- The two records of the channel file CH (10_state.md R22). -/
inductive Chan where
  | zero
  | one
  deriving DecidableEq, Repr

/-- The eight decode strategies (00_scope.md R2), in the order of their codes (30_encoding.md R82). -/
inductive Variant where
  | oki
  | imaGeneric
  | dvi
  | appleIma
  | msimaMono
  | msimaStereo
  | dk3
  | msAdpcm
  deriving DecidableEq, Repr

/-- Which nibble primitive a 4-bit code is read by.
The variant decides it: the code itself carries nothing that does (R84, R85). -/
inductive CodeFamily where
  | oki
  | ima
  | msAdpcm
  deriving DecidableEq, Repr

/-- The 23 rows of the opcode table: seven host commands (format CMD, R81), thirteen units of the decode engine
(format DW, R83 and R96) and three nibble primitives (format NIBBLE, R84 and R85). -/
inductive Instr where
  /-- CMD 0x01, R112. -/
  | configure
  /-- CMD 0x02, R114. -/
  | readBuffer
  /-- CMD 0x03, R115. -/
  | endOfData
  /-- CMD 0x04, R116. -/
  | isStereo
  /-- CMD 0x05, R117. -/
  | getRate
  /-- CMD 0x06, R118. -/
  | rewind
  /-- CMD 0x07, R119. -/
  | release
  /-- DW 0x00, R161. -/
  | okiBody
  /-- DW 0x10, R175. -/
  | imaGenericBody
  /-- DW 0x20, R173. -/
  | dviBody
  /-- DW 0x31, R190. -/
  | appleImaHeader
  /-- DW 0x30, R191 and R192. -/
  | appleImaBody
  /-- DW 0x41, R200. -/
  | msimaMonoHeader
  /-- DW 0x40, R201. -/
  | msimaMonoBody
  /-- DW 0x51, R200. -/
  | msimaStereoHeader
  /-- DW 0x50, R202. -/
  | msimaStereoBody
  /-- DW 0x61, R210. -/
  | dk3Header
  /-- DW 0x60, R212 and R213. -/
  | dk3Body
  /-- DW 0x71, R233. -/
  | msAdpcmHeader
  /-- DW 0x70, R234. -/
  | msAdpcmBody
  /-- NIBBLE, R170: `IMA_STEP(k, code)`. -/
  | imaStep (k : Chan) (code : Code)
  /-- NIBBLE, R160: `OKI_STEP(k, code)`. -/
  | okiStep (k : Chan) (code : Code)
  /-- NIBBLE, R230: `MSADPCM_STEP(k, c)`. -/
  | msAdpcmStep (k : Chan) (code : Code)
  deriving DecidableEq, Repr

end Sys2Proof
end

