-- ==== Sys2Proof/Config.lean ====
section
/-! DEFINITION. The implementation parameters of 00_scope.md R7 as plain data, and the free values of the model. -/

namespace Sys2Proof

/-- IMA_DIFF (43_ima.md R170, R171). -/
inductive ImaDiff where
  | doc
  | mul8
  | shiftAdd
  deriving DecidableEq, Repr

/-- OKI_WIDEN (42_oki.md R163). -/
inductive OkiWiden where
  | shl4
  | sext
  deriving DecidableEq, Repr

/-- OKI_STEREO (42_oki.md R162). -/
inductive OkiStereo where
  | perChannel
  | shared
  deriving DecidableEq, Repr

/-- Which nibble of a byte is decoded first (30_encoding.md R86). -/
inductive NibbleOrder where
  | loFirst
  | hiFirst
  deriving DecidableEq, Repr

/-- NIBBLE_ORDER for the variants that read their bytes through it.
DK3 is not here: its order is fixed by the half-byte cursor (44_ima_blocked.md R211). -/
structure NibbleOrders where
  oki : NibbleOrder
  imaGeneric : NibbleOrder
  dvi : NibbleOrder
  appleIma : NibbleOrder
  msima : NibbleOrder
  msAdpcm : NibbleOrder
  deriving DecidableEq, Repr

/-- APPLE_PREAMBLE_ORDER (30_encoding.md R89). -/
inductive PreambleOrder where
  | le
  | be
  deriving DecidableEq, Repr

/-- INVERT_MODE (44_ima_blocked.md R203). -/
inductive InvertMode where
  | nibbleSign
  | outputNegate
  | nibbleOrderSwap
  deriving DecidableEq, Repr

/-- DK3_SCHEDULE (44_ima_blocked.md R212, R213). -/
inductive Dk3Schedule where
  | sds
  | sd
  deriving DecidableEq, Repr

/-- DK3_COMBINE (44_ima_blocked.md R214): the source's formula, or "the variant's equivalent combination",
which no source states. -/
inductive Dk3Combine where
  | sumDiff
  | unstated
  deriving DecidableEq, Repr

/-- DK3_HEADER (30_encoding.md R93): where in the 16-byte header the four fields stand. -/
structure Dk3Layout where
  sumPred : Nat
  diffPred : Nat
  sumIndex : Nat
  diffIndex : Nat
  deriving DecidableEq, Repr

/-- MSADPCM_HISTORY (45_ms_adpcm.md R231). -/
inductive History where
  | doc
  | newestCoeff1
  deriving DecidableEq, Repr

/-- MSADPCM_PRED_DIV (45_ms_adpcm.md R231). -/
inductive PredDiv where
  | floor
  | trunc
  deriving DecidableEq, Repr

/-- The parameters of R7. A table's entries that the source fixes are not in here (entry 0 of the step table is 7,
R141; entry 0 of the coefficient table is (256, 0), R145): only what the spec leaves to an argument is. -/
structure Config where
  /-- IMA_STEP_TABLE, entries 1 to 88 (R141). -/
  imaStepRest : List Nat
  /-- STEP_ADJUST, 16 entries indexed by the whole code (R143). -/
  stepAdjust : List Int
  imaDiff : ImaDiff
  /-- OKI_DIFF (R144) as the table of its values, `OKI_DIFF(i, m)` at `8 * i + m`. -/
  okiDiff : List Nat
  /-- OKI_INDEX_MAX (R144); INDEX is a u8 (R22), so it is one too. -/
  okiIndexMax : Byte
  okiWiden : OkiWiden
  okiStereo : OkiStereo
  nibbleOrder : NibbleOrders
  applePreambleOrder : PreambleOrder
  msimaEmitHeaderSample : Bool
  invertMode : InvertMode
  dk3Layout : Dk3Layout
  dk3Schedule : Dk3Schedule
  dk3Combine : Dk3Combine
  /-- MSADPCM_COEFF_TABLE, entries 1 to NCOEF - 1 (R145). -/
  coefRest : List (Word16 × Word16)
  /-- MSADPCM_ADAPT_TABLE, 9 entries indexed by `abs(nibble)` (R146). -/
  adapt : List Int
  /-- MSADPCM_MIN_DELTA (R147), an int32 like DELTA. -/
  minDelta : Word32
  history : History
  predDiv : PredDiv
  strictGranule : Bool
  deriving DecidableEq, Repr

/-- Free value: the outcome of the n-th draw as a seek result, "a Boolean the model does not choose, one per REWIND"
(20_memory.md R74, D7). Log entry 5. -/
opaque Config.seekOk : Nat → Bool

/-- Free value: the outcome of the n-th draw as END_OF_DATA's answer at an undefined position (40_commands.md R115, D10).
Log entry 5. -/
opaque Config.eodDraw : Nat → Bool

/-- Free value: the byte that a unit performed as the n-th draw reads at an offset from CURSOR, after the host changed the source
under a configured decoder (70_reset_and_hazards.md R286; U7). Log entry 25. -/
opaque Config.freeByte : Nat → Nat → Byte

/-- Free value: the k-th sample of a unit performed as the n-th draw after such a change: "any value: every later sample is
unconstrained" (93_implementation_defined.md U7). Log entry 25. -/
opaque Config.freeSample : Nat → Nat → Sample

/-- Free value: what a DK3 combination other than the source's formula gives for (sum, difference)
(44_ima_blocked.md R214). Log entry 12. -/
opaque Config.dk3Other : Word16 → Word16 → Sample × Sample

/-- Free value: an entry of IMA_STEP_TABLE the table does not have. Log entry 10. -/
opaque Config.freeImaStep : Nat → Nat

/-- Free value: an entry of STEP_ADJUST the table does not have. Log entry 10. -/
opaque Config.freeStepAdjust : Nat → Int

/-- Free value: a value of OKI_DIFF the table does not have. Log entry 10. -/
opaque Config.freeOkiDiff : Nat → Nat

/-- Free value: an entry of MSADPCM_ADAPT_TABLE the table does not have. Log entry 10. -/
opaque Config.freeAdapt : Nat → Int

end Sys2Proof
end

