-- ==== Sys2Proof/WellFormed.lean ====
section
/-! DEFINITION. Well-formedness: which parameter values are a block's (00_scope.md R7), and which instructions the block
can form under a configuration (30_encoding.md R83, R84, R99). -/

namespace Sys2Proof

/-- IMA_STEP_TABLE has 89 entries, the first of them fixed (R141). -/
def Config.imaStepOk (c : Config) : Bool := c.imaStepRest.length == 88

/-- STEP_ADJUST has 16 entries (R143). -/
def Config.stepAdjustOk (c : Config) : Bool := c.stepAdjust.length == 16

/-- OKI_DIFF is given for every step index up to OKI_INDEX_MAX and every magnitude (R144). -/
def Config.okiDiffOk (c : Config) : Bool := c.okiDiff.length == 8 * (c.okiIndexMax.toNat + 1)

/-- MODE is a u8, so NCOEF is at most 256 (R22, R145). -/
def Config.coefOk (c : Config) : Bool := decide (c.coefRest.length ≤ 255)

/-- MSADPCM_ADAPT_TABLE has 9 entries (R146). -/
def Config.adaptOk (c : Config) : Bool := c.adapt.length == 9

/-- The fields of a DK3 header lie inside its 16 bytes (R93, R96). -/
def Config.dk3LayoutOk (c : Config) : Bool :=
  decide (c.dk3Layout.sumPred ≤ 14) && decide (c.dk3Layout.diffPred ≤ 14) &&
    decide (c.dk3Layout.sumIndex ≤ 15) && decide (c.dk3Layout.diffIndex ≤ 15)

/-- The parameter values R7 admits. -/
def Config.wellFormed (c : Config) : Bool :=
  c.imaStepOk && c.stepAdjustOk && c.okiDiffOk && c.coefOk && c.adaptOk && c.dk3LayoutOk

/-- The primitive that reads a variant's codes (R84, R85). -/
def Variant.family : Variant → CodeFamily
  | .oki => .oki
  | .imaGeneric | .dvi | .appleIma | .msimaMono | .msimaStereo | .dk3 => .ima
  | .msAdpcm => .msAdpcm

/-- Whether the block can form the instruction under a configured variant: the host may write any command; a unit is formed
under its own variant only ("Dispatch words not in the table ... are never formed", R99); a code is read by its variant's
primitive only. -/
def Instr.formedUnder (v : Variant) : Instr → Bool
  | .configure | .readBuffer | .endOfData | .isStereo | .getRate | .rewind | .release => true
  | .okiBody => v == .oki
  | .imaGenericBody => v == .imaGeneric
  | .dviBody => v == .dvi
  | .appleImaHeader | .appleImaBody => v == .appleIma
  | .msimaMonoHeader | .msimaMonoBody => v == .msimaMono
  | .msimaStereoHeader | .msimaStereoBody => v == .msimaStereo
  | .dk3Header | .dk3Body => v == .dk3
  | .msAdpcmHeader | .msAdpcmBody => v == .msAdpcm
  | .imaStep _ _ => v.family == .ima
  | .okiStep _ _ => v.family == .oki
  | .msAdpcmStep _ _ => v.family == .msAdpcm

end Sys2Proof
end

