-- ==== Sys2Proof/Decode.lean ====
section
/-! DEFINITION. The decoder of the three encodings of 30_encoding.md R80 (command word, dispatch word, 4-bit code), total and
rejecting by name, and after it the encoder. -/

namespace Sys2Proof

/-- An encoded instruction together with the encoding space it stands in (R80): what the host writes to CMD, the engine's
dispatch word, or a code of the coded data, which the block reads by its variant's primitive on the channel the unit routes it to. -/
inductive Encoded where
  | cmd (v : Word32)
  | dw (w : Byte)
  | code (f : CodeFamily) (k : Chan) (c : Code)
  deriving DecidableEq, Repr

/-- Why a word is no instruction. -/
inductive DecodeError where
  /-- CMD bits [31:8] are not zero (R81, R98). -/
  | cmdHighBits
  /-- OPC is 0x00 or in 0x08-0xFF (R98). -/
  | cmdReservedOpcode
  /-- DW names a VARIANT in 8-15 (R99). -/
  | dwReservedVariant
  /-- DW has PHASE = 1 for OKI, IMA_GENERIC or DVI, which have no header (R99). -/
  | dwNoHeader
  /-- DW has PHASE in 2-15 (R99). -/
  | dwReservedPhase
  deriving DecidableEq, Repr

/-- The VARIANT code of R82. -/
def Variant.code : Variant → Nat
  | .oki => 0
  | .imaGeneric => 1
  | .dvi => 2
  | .appleIma => 3
  | .msimaMono => 4
  | .msimaStereo => 5
  | .dk3 => 6
  | .msAdpcm => 7

/-- The variant of a VARIANT code; codes 8-15 and above are reserved (R82). -/
def Variant.ofCode : Nat → Option Variant
  | 0 => some .oki
  | 1 => some .imaGeneric
  | 2 => some .dvi
  | 3 => some .appleIma
  | 4 => some .msimaMono
  | 5 => some .msimaStereo
  | 6 => some .dk3
  | 7 => some .msAdpcm
  | _ => none

/-- The commands by OPC (R81). -/
def commandOf : Nat → Option Instr
  | 1 => some .configure
  | 2 => some .readBuffer
  | 3 => some .endOfData
  | 4 => some .isStereo
  | 5 => some .getRate
  | 6 => some .rewind
  | 7 => some .release
  | _ => none

/-- Decoding of a word written to CMD: bits [7:0] OPC, bits [31:8] zero (R81, R98). -/
def decodeCommand (v : Word32) : Except DecodeError Instr :=
  if v.toNat / 256 ≠ 0 then .error .cmdHighBits
  else match commandOf (v.toNat % 256) with
    | some i => .ok i
    | none => .error .cmdReservedOpcode

/-- The header unit of a variant that has headers (R83, R96). -/
def Variant.headerUnit : Variant → Option Instr
  | .oki | .imaGeneric | .dvi => none
  | .appleIma => some .appleImaHeader
  | .msimaMono => some .msimaMonoHeader
  | .msimaStereo => some .msimaStereoHeader
  | .dk3 => some .dk3Header
  | .msAdpcm => some .msAdpcmHeader

/-- The body unit of a variant (R83, R96). -/
def Variant.bodyUnit : Variant → Instr
  | .oki => .okiBody
  | .imaGeneric => .imaGenericBody
  | .dvi => .dviBody
  | .appleIma => .appleImaBody
  | .msimaMono => .msimaMonoBody
  | .msimaStereo => .msimaStereoBody
  | .dk3 => .dk3Body
  | .msAdpcm => .msAdpcmBody

/-- Decoding of a dispatch word: DW[7:4] = VARIANT, DW[3:0] = PHASE, 0 for BODY and 1 for HEADER (R83, R99). -/
def decodeDispatch (w : Byte) : Except DecodeError Instr :=
  match Variant.ofCode (w.toNat / 16) with
  | none => .error .dwReservedVariant
  | some v =>
    if w.toNat % 16 = 0 then .ok v.bodyUnit
    else if w.toNat % 16 = 1 then
      match v.headerUnit with
      | some i => .ok i
      | none => .error .dwNoHeader
    else .error .dwReservedPhase

/-- Reading of a 4-bit code: all 16 values are legal in every family (R84, R85, R100). -/
def decodeCode (f : CodeFamily) (k : Chan) (c : Code) : Instr :=
  match f with
  | .oki => .okiStep k c
  | .ima => .imaStep k c
  | .msAdpcm => .msAdpcmStep k c

/-- The decoder. -/
def decode : Encoded → Except DecodeError Instr
  | .cmd v => decodeCommand v
  | .dw w => decodeDispatch w
  | .code f k c => .ok (decodeCode f k c)

/-- The encoder, from the tables of R81, R83 with R96, and R84, R85. -/
def encode : Instr → Encoded
  | .configure => .cmd 0x01#32
  | .readBuffer => .cmd 0x02#32
  | .endOfData => .cmd 0x03#32
  | .isStereo => .cmd 0x04#32
  | .getRate => .cmd 0x05#32
  | .rewind => .cmd 0x06#32
  | .release => .cmd 0x07#32
  | .okiBody => .dw 0x00#8
  | .imaGenericBody => .dw 0x10#8
  | .dviBody => .dw 0x20#8
  | .appleImaHeader => .dw 0x31#8
  | .appleImaBody => .dw 0x30#8
  | .msimaMonoHeader => .dw 0x41#8
  | .msimaMonoBody => .dw 0x40#8
  | .msimaStereoHeader => .dw 0x51#8
  | .msimaStereoBody => .dw 0x50#8
  | .dk3Header => .dw 0x61#8
  | .dk3Body => .dw 0x60#8
  | .msAdpcmHeader => .dw 0x71#8
  | .msAdpcmBody => .dw 0x70#8
  | .imaStep k c => .code .ima k c
  | .okiStep k c => .code .oki k c
  | .msAdpcmStep k c => .code .msAdpcm k c

/-- The encoding space of a word as spec/opcode_table.json counts its bits: 32 bits a command word, 8 bits a dispatch word.
The three NIBBLE rows have no fixed bits and the same four operand bits, so the table's word alone cannot tell them apart;
a word shorter than a byte is read as a code of the IMA family on channel 0 (log entry 8). -/
def tableWord (nbits w : Nat) : Option Encoded :=
  if nbits = 32 then some (.cmd (BitVec.ofNat 32 w))
  else if nbits = 8 then some (.dw (BitVec.ofNat 8 w))
  else if nbits < 8 then some (.code .ima .zero (BitVec.ofNat 4 w))
  else none

/-- The instruction the decoder reads from a word numbered as spec/opcode_table.json numbers it. -/
def decodeTableWord (nbits w : Nat) : Option Instr :=
  match tableWord nbits w with
  | none => none
  | some e =>
    match decode e with
    | .ok i => some i
    | .error _ => none

end Sys2Proof
end

