-- ==== Sys2Proof/Machine/Tables.lean ====
section
/-! DEFINITION. The default parameter values of 00_scope.md R7, the candidate tables of 41_tables.md among them, and the
table lookups. -/

namespace Sys2Proof.Machine

/-- Entries 1 to 88 of the candidate IMA_STEP_TABLE (R141; general knowledge, log entry 3). -/
def imaStepCandidate : List Nat :=
  [8, 9, 10, 11, 12, 13, 14, 16, 17] ++
  [19, 21, 23, 25, 28, 31, 34, 37, 41, 45] ++
  [50, 55, 60, 66, 73, 80, 88, 97, 107, 118] ++
  [130, 143, 157, 173, 190, 209, 230, 253, 279, 307] ++
  [337, 371, 408, 449, 494, 544, 598, 658, 724, 796] ++
  [876, 963, 1060, 1166, 1282, 1411, 1552, 1707, 1878, 2066] ++
  [2272, 2499, 2749, 3024, 3327, 3660, 4026, 4428, 4871, 5358] ++
  [5894, 6484, 7132, 7845, 8630, 9493, 10442, 11487, 12635, 13899] ++
  [15289, 16818, 18500, 20350, 22385, 24623, 27086, 29794, 32767]

/-- The candidate STEP_ADJUST (R143; general knowledge, log entry 3). -/
def stepAdjustCandidate : List Int :=
  [-1, -1, -1, -1, 2, 4, 6, 8] ++ [-1, -1, -1, -1, 2, 4, 6, 8]

/-- The candidate OKI step table (R144; general knowledge, log entry 3). -/
def okiStepCandidate : List Nat :=
  [16, 17, 19, 21, 23, 25, 28, 31, 34, 37] ++
  [41, 45, 50, 55, 60, 66, 73, 80, 88, 97] ++
  [107, 118, 130, 143, 157, 173, 190, 209, 230, 253] ++
  [279, 307, 337, 371, 408, 449, 494, 544, 598, 658] ++
  [724, 796, 876, 963, 1060, 1166, 1282, 1411, 1552]

/-- The candidate `OKI_DIFF(i, m) = ((2 * m + 1) * OKI_STEP[i]) >> 3` (R144), written out as its table. -/
def okiDiffCandidate : List Nat :=
  okiStepCandidate.flatMap fun step => [0, 1, 2, 3, 4, 5, 6, 7].map fun m => (2 * m + 1) * step / 8

/-- Entries 1 to 6 of the candidate MSADPCM_COEFF_TABLE (R145; general knowledge, log entry 3). -/
def coefCandidate : List (Word16 × Word16) :=
  [(512#16, BitVec.ofInt 16 (-256)), (0#16, 0#16), (192#16, 64#16), (240#16, 0#16),
   (460#16, BitVec.ofInt 16 (-208)), (392#16, BitVec.ofInt 16 (-232))]

/-- The candidate MSADPCM_ADAPT_TABLE (R146; general knowledge, log entry 3). -/
def adaptCandidate : List Int := [230, 230, 230, 230, 307, 409, 512, 614, 768]

/-- The default NIBBLE_ORDER (30_encoding.md R86). -/
def nibbleOrderDefault : NibbleOrders where
  oki := .hiFirst
  imaGeneric := .loFirst
  dvi := .loFirst
  appleIma := .loFirst
  msima := .loFirst
  msAdpcm := .hiFirst

/-- The default DK3_HEADER (30_encoding.md R93). -/
def dk3LayoutDefault : Dk3Layout where
  sumPred := 10
  diffPred := 12
  sumIndex := 14
  diffIndex := 15

/-- The parameters at their defaults (00_scope.md R7), the OPEN ones at the spec's candidates (log entry 3). -/
def defaultConfig : Config where
  imaStepRest := imaStepCandidate
  stepAdjust := stepAdjustCandidate
  imaDiff := .doc
  okiDiff := okiDiffCandidate
  okiIndexMax := 48#8
  okiWiden := .shl4
  okiStereo := .perChannel
  nibbleOrder := nibbleOrderDefault
  applePreambleOrder := .le
  msimaEmitHeaderSample := false
  invertMode := .nibbleSign
  dk3Layout := dk3LayoutDefault
  dk3Schedule := .sds
  dk3Combine := .sumDiff
  coefRest := coefCandidate
  adapt := adaptCandidate
  minDelta := 16#32
  history := .doc
  predDiv := .floor
  strictGranule := false

/-- `IMA_STEP_TABLE[i]`: entry 0 is 7 (R141). -/
def imaStepEntry (c : Config) (i : Nat) : Nat := (7 :: c.imaStepRest).getD i (Config.freeImaStep i)

/-- `STEP_ADJUST[code]`, indexed by the whole 4-bit code, sign included (R84, R143). -/
def stepAdjustEntry (c : Config) (code : Code) : Int :=
  c.stepAdjust.getD code.toNat (Config.freeStepAdjust code.toNat)

/-- `OKI_DIFF(i, m)` (R144). -/
def okiDiffEntry (c : Config) (i m : Nat) : Nat :=
  c.okiDiff.getD (8 * i + m) (Config.freeOkiDiff (8 * i + m))

/-- NCOEF, the number of entries of MSADPCM_COEFF_TABLE (R145). -/
def nCoef (c : Config) : Nat := c.coefRest.length + 1

/-- `MSADPCM_COEFF_TABLE[mode]`: entry 0 is (256, 0) (R145). A MODE is at most NCOEF - 1 (30_encoding.md R95). -/
def coefEntry (c : Config) (mode : Nat) : Word16 × Word16 :=
  ((256#16, 0#16) :: c.coefRest).getD mode (256#16, 0#16)

/-- `MSADPCM_ADAPT_TABLE[a]` for `a = abs(nibble)` (R146). -/
def adaptEntry (c : Config) (a : Nat) : Int := c.adapt.getD a (Config.freeAdapt a)

end Sys2Proof.Machine
end

