-- ==== Sys2Proof/Machine/State.lean ====
section
/-! DEFINITION. The state of the block (10_state.md R20) as plain data, the reasons a step can stop, and power-on reset. -/

namespace Sys2Proof.Machine

/-- The lifecycle state LIFE (R33). -/
inductive Life where
  | unconfigured
  | configured
  deriving DecidableEq, Repr

/-- CHANNELS: 1 or 2 while configured (R34), 0 at power-on and after RELEASE (R44, R119). -/
inductive ChannelCount where
  | none
  | mono
  | stereo
  deriving DecidableEq, Repr

/-- The error codes of STATUS.ERR (60_exceptions.md R255). -/
inductive Err where
  | none
  | cfgReservedFlags
  | cfgBadVariant
  | cfgBadChannels
  | cfgVariantChannels
  | cfgZeroBlockAlign
  | cfgBadGeometry
  | cfgBadRange
  | cmdNotConfigured
  | cmdAlreadyConfigured
  | cmdIllegal
  | cmdBadArg
  | cmdFaulted
  | seekFailed
  | truncated
  | fault
  deriving DecidableEq, Repr

/-- The fault codes of FAULTREG that are ever raised (60_exceptions.md R257). -/
inductive FaultCode where
  | positionUndefined
  | deltaOverflow
  deriving DecidableEq, Repr

/-- One channel record CH[k] (R22); the signed fields are two's complement words of their width. -/
structure Channel where
  pred : Word16
  index : Byte
  mode : Byte
  delta : Word32
  coef1 : Word16
  coef2 : Word16
  s1 : Word16
  s2 : Word16
  deriving DecidableEq, Repr

/-- The active configuration latched by CONFIGURE (R34). -/
structure ActiveConf where
  variant : Variant
  channels : ChannelCount
  rate : Word32
  blockAlign : Word32
  start : Word32
  endPos : Word32
  invert : Bool
  dispose : Bool
  deriving DecidableEq, Repr

/-- What the internal reset() zeroes (40_commands.md R120): the channel file (R22), the layout trackers BLOCKREM, TOPNIB and
LASTBYTE (R26, R29), the pending-sample FIFO PEND, head first (R27), and the end-of-data latch EODLATCH (R32). -/
structure Decoder where
  ch0 : Channel
  ch1 : Channel
  blockRem : Word32
  topNib : Bool
  lastByte : Byte
  pend : List Sample
  eodLatch : Bool
  deriving DecidableEq, Repr

/-- The argument registers A_VARIANT to A_MAX, numbers 0x1 to 0x8 (R35, R37, R38). -/
structure ArgRegs where
  variant : Word32
  channels : Word32
  rate : Word32
  blockAlign : Word32
  start : Word32
  endPos : Word32
  flags : Word32
  max : Word32
  deriving DecidableEq, Repr

/-- What the outside world can do to the block, one item a step (log entry 1). -/
inductive Request where
  /-- A host write of a 32-bit value to a register number (R35, R102); a write to CMD starts a command (R36). -/
  | write (reg : BitVec 4) (value : Word32)
  /-- A host read of a register number (R35). -/
  | read (reg : BitVec 4)
  /-- The host sets the byte source SRC[0..L-1] the block is to read (R60, R62; log entry 2). -/
  | source (bytes : List Byte)
  deriving DecidableEq, Repr

/-- The state. The first group is R20's; the second is the launch arguments, which R20 calls arguments of the model and which no
command changes; the third is the model's own record of the block's surroundings. -/
structure State where
  /-- LIFE (R33). -/
  life : Life
  /-- FAULTREG bits [3:0]; bits [31:4] read 0 (R41). -/
  faultReg : BitVec 4
  /-- The active configuration (R34). -/
  conf : ActiveConf
  /-- CH, the trackers, PEND and EODLATCH (R22, R26, R27, R29, R32). -/
  dec : Decoder
  /-- CURSOR (R28). -/
  cursor : Word32
  /-- CURSOR_VALID (R28). -/
  cursorValid : Bool
  /-- A_VARIANT to A_MAX (R37, R38). -/
  args : ArgRegs
  /-- RESULT (R39). -/
  result : Word32
  /-- STATUS (R40). -/
  status : Word32
  /-- The parameters of 00_scope.md R7 (log entries 2 and 3). -/
  cfg : Config
  /-- SRC, in the canonical form of `srcWf` (R60; log entry 4). -/
  src : List Host.Cell
  /-- L, the length of SRC (R7, R31). -/
  srcLen : Word32
  /-- Whether the host has changed SRC or L while a decoder was configured, against its duty (70_reset_and_hazards.md R286; log
  entry 25). The block does not detect it: no register shows it. -/
  srcChanged : Bool
  /-- The host's requests not yet served, oldest first (log entry 1). -/
  pending : List Request
  /-- What the last host register read returned (log entry 7). -/
  readData : Word32
  /-- Every sample delivered on the sample port, oldest first (20_memory.md R60, R75; log entry 6). -/
  samplePort : List Sample
  /-- The host's buffer outSamples (R75; log entry 6). -/
  hostBuf : List Sample
  /-- How many free draws have been taken (log entries 5 and 25). -/
  draws : Nat
  deriving DecidableEq, Repr

/-- The reasons the machine stops with a fault: none. Every error and fault of the spec is reported in registers by a next state
(R250, R256, R260; log entry 21). -/
inductive Fault where
  deriving DecidableEq, Repr

/-- The reasons a step has no meaning. -/
inductive Refusal where
  /-- Raised by an arm of exec whose instruction has no meaning yet. Safe. -/
  | notModelled (mnemonic : String)
  /-- Raised by the source request for more than 2^32 - 1 bytes: "sources longer than 2^32 - 1 bytes cannot be described"
  (92_eei_decisions.md D5). Safe: there is no such source. -/
  | sourceTooLong
  deriving DecidableEq, Repr

/-- A channel record of zeros (R44). -/
def Channel.zero : Channel where
  pred := 0#16
  index := 0#8
  mode := 0#8
  delta := 0#32
  coef1 := 0#16
  coef2 := 0#16
  s1 := 0#16
  s2 := 0#16

/-- The "after reset()" column of R44; it is also the power-on value. -/
def Decoder.zero : Decoder where
  ch0 := Channel.zero
  ch1 := Channel.zero
  blockRem := 0#32
  topNib := false
  lastByte := 0#8
  pend := []
  eodLatch := false

/-- The active configuration at power-on and after RELEASE: every field 0 (R44, R119). -/
def ActiveConf.zero : ActiveConf where
  variant := .oki
  channels := .none
  rate := 0#32
  blockAlign := 0#32
  start := 0#32
  endPos := 0#32
  invert := false
  dispose := false

/-- The argument registers at power-on (R44). -/
def ArgRegs.zero : ArgRegs where
  variant := 0#32
  channels := 0#32
  rate := 0#32
  blockAlign := 0#32
  start := 0#32
  endPos := 0#32
  flags := 0#32
  max := 0#32

/-- Power-on reset: the "power-on" column of R44 (70_reset_and_hazards.md R280), with no source presented, no request waiting
and the default parameters (log entries 1 to 7 and 25). -/
def State.reset : State where
  life := .unconfigured
  faultReg := 0#4
  conf := ActiveConf.zero
  dec := Decoder.zero
  cursor := 0#32
  cursorValid := false
  args := ArgRegs.zero
  result := 0#32
  status := 0#32
  cfg := defaultConfig
  src := []
  srcLen := 0#32
  srcChanged := false
  pending := []
  readData := 0#32
  samplePort := []
  hostBuf := []
  draws := 0

end Sys2Proof.Machine
end

