-- ==== Sys2Proof/Machine/Operands.lean ====
section
/-! DEFINITION. Operand forms: exact arithmetic (00_scope.md R8-R11), the source bytes (R14, 20_memory.md), the codes and their
order in a byte (30_encoding.md R84-R86), header fields (R89, R90, R93, R95) and command arguments (R82, R103). -/

namespace Sys2Proof.Machine

/-- `clamp(v, lo, hi) = min(max(v, lo), hi)` (R10). -/
def clamp (v lo hi : Int) : Int := min (max v lo) hi

/-- `clamp16` (R10). -/
def clamp16 (v : Int) : Int := clamp v (-32768) 32767

/-- An int16 of an exact value in its range (R8). -/
def int16 (v : Int) : Word16 := BitVec.ofInt 16 v

/-! ### The source bytes -/

/-- What an address not listed in `src` holds (log entry 4). -/
def unlistedByte : Byte := 0#8

/-- `SRC[a]` (R60). -/
def srcByte : List Host.Cell → Nat → Byte
  | [], _ => unlistedByte
  | (k, b) :: rest, a => if k = a then b else srcByte rest a

/-- The cells of a byte array that starts at `base`, in canonical form. -/
def srcOfBytes : Nat → List Byte → List Host.Cell
  | _, [] => []
  | base, b :: rest =>
    if b = unlistedByte then srcOfBytes (base + 1) rest else (base, b) :: srcOfBytes (base + 1) rest

/-- The canonical form from address `base` on: addresses strictly rising, below the source length, no entry equal to what an
unlisted address holds. -/
def srcWfFrom (len : Nat) : Nat → List Host.Cell → Bool
  | _, [] => true
  | base, (k, b) :: rest =>
    decide (base ≤ k) && decide (k < len) && decide (b ≠ unlistedByte) && srcWfFrom len (k + 1) rest

/-- The canonical form of a source of length `len`. -/
def srcWf (src : List Host.Cell) (len : Nat) : Bool := srcWfFrom len 0 src

/-- `MemRead(a, n)`: little-endian, zero-extended (R14, R63). -/
def memRead (src : List Host.Cell) : Nat → Nat → Nat
  | _, 0 => 0
  | a, n + 1 => (srcByte src a).toNat + 256 * memRead src (a + 1) n

/-- `MemReadBE(a, n)`: the big-endian assembly (R14). -/
def memReadBE (src : List Host.Cell) : Nat → Nat → Nat
  | _, 0 => 0
  | a, n + 1 => (srcByte src a).toNat * 256 ^ n + memReadBE src (a + 1) n

/-- `sext_16(MemRead(a, 2))` as an int16 (R10, R63). -/
def memInt16 (src : List Host.Cell) (a : Nat) : Word16 := BitVec.ofNat 16 (memRead src a 2)

/-! ### Codes -/

/-- The sign bit S of an IMA-family or OKI code (R84). -/
def codeSign (c : Code) : Bool := c.getLsbD 3

/-- The magnitude M of an IMA-family or OKI code, `c[2:0]` (R84). -/
def codeMag (c : Code) : Nat := c.toNat % 8

/-- The value of an MS_ADPCM code, `sext_4(c)` (R85). -/
def codeSigned (c : Code) : Int := c.toInt

/-- A difference of the code's sign (R160, R170: "if code[3] = 1: d <- -d"). -/
def applySign (c : Code) (d : Nat) : Int := if codeSign c then -(d : Int) else d

/-- `lo(b) = b[3:0]` (R9). -/
def lo (b : Byte) : Code := b.setWidth 4

/-- `hi(b) = b[7:4]` (R9). -/
def hi (b : Byte) : Code := (b >>> 4).setWidth 4

/-- The code of a byte that is decoded first (R86). -/
def firstCode (o : NibbleOrder) (b : Byte) : Code :=
  match o with
  | .loFirst => lo b
  | .hiFirst => hi b

/-- The code of a byte that is decoded second (R86). -/
def secondCode (o : NibbleOrder) (b : Byte) : Code :=
  match o with
  | .loFirst => hi b
  | .hiFirst => lo b

/-- The other nibble order, for INVERT_MODE = NIBBLE_ORDER_SWAP (R203). -/
def swapOrder : NibbleOrder → NibbleOrder
  | .loFirst => .hiFirst
  | .hiFirst => .loFirst

/-! ### Header fields -/

/-- A step index read from a header, `clamp(v, 0, 88)` (R89, R90, R93). -/
def headerIndex (v : Nat) : Byte := BitVec.ofNat 8 (min v 88)

/-- The AppleIMA preamble value V (R89). -/
def applePreamble (o : PreambleOrder) (src : List Host.Cell) (a : Nat) : Word16 :=
  match o with
  | .le => BitVec.ofNat 16 (memRead src a 2)
  | .be => BitVec.ofNat 16 (memReadBE src a 2)

/-- The predictor of a preamble, `sext_16(V & 0xFF80)` (R89). -/
def applePred (v : Word16) : Word16 := v &&& 0xFF80#16

/-- The step index of a preamble, `clamp(V[6:0], 0, 88)` (R89). -/
def appleIndex (v : Word16) : Byte := headerIndex (v.toNat % 128)

/-- The predictorMode of an MS_ADPCM header, `clamp(m, 0, NCOEF - 1)` (R95). -/
def headerMode (c : Config) (m : Byte) : Byte := BitVec.ofNat 8 (min m.toNat (nCoef c - 1))

/-- The delta of an MS_ADPCM header: int16, sign-extended to int32 (R95). -/
def headerDelta (v : Word16) : Word32 := v.signExtend 32

/-! ### Command arguments -/

/-- A_CHANNELS as a channel count: legal values 1 and 2 (R103). -/
def argChannels (v : Word32) : Option ChannelCount :=
  match v.toNat with
  | 1 => some .mono
  | 2 => some .stereo
  | _ => none

/-- A_FLAGS bit 0, INVERT (R38). -/
def flagInvert (f : Word32) : Bool := f.getLsbD 0

/-- A_FLAGS bit 1, DISPOSE (R38). -/
def flagDispose (f : Word32) : Bool := f.getLsbD 1

/-- A_FLAGS bits [31:2], reserved (R38). -/
def flagReserved (f : Word32) : Nat := f.toNat / 4

/-- A_MAX bit 31, which must be 0 (R103). -/
def maxNegative (m : Word32) : Bool := m.getLsbD 31

/-- A_MAX bits [30:0], maxSamples (R103). -/
def maxSamples (m : Word32) : Nat := m.toNat % 2 ^ 31

/-- CHANNELS as a number (R34). -/
def ChannelCount.count : ChannelCount → Nat
  | .none => 0
  | .mono => 1
  | .stereo => 2

end Sys2Proof.Machine
end

