-- ==== Sys2Proof/Machine/Flags.lean ====
section
/-! DEFINITION. The block's flags: the error and fault codes (60_exceptions.md R255, R257), end of data (40_commands.md R124)
and the STATUS word (10_state.md R40). -/

namespace Sys2Proof.Machine

/-- The number of an error code in STATUS[11:8] (R255). -/
def Err.code : Err → BitVec 4
  | .none => 0#4
  | .cfgReservedFlags => 1#4
  | .cfgBadVariant => 2#4
  | .cfgBadChannels => 3#4
  | .cfgVariantChannels => 4#4
  | .cfgZeroBlockAlign => 5#4
  | .cfgBadGeometry => 6#4
  | .cfgBadRange => 7#4
  | .cmdNotConfigured => 8#4
  | .cmdAlreadyConfigured => 9#4
  | .cmdIllegal => 10#4
  | .cmdBadArg => 11#4
  | .cmdFaulted => 12#4
  | .seekFailed => 13#4
  | .truncated => 14#4
  | .fault => 15#4

/-- The number of a fault in FAULTREG[3:0] (R257). -/
def FaultCode.code : FaultCode → BitVec 4
  | .positionUndefined => 1#4
  | .deltaOverflow => 2#4

/-- LIMIT = min(END, L), the first offset the block may not read (R31). -/
def State.limit (s : State) : Nat := min s.conf.endPos.toNat s.srcLen.toNat

/-- Whether the stream has no more units to perform: EODLATCH, or the cursor at LIMIT (R121). -/
def State.atEnd (s : State) : Bool := s.dec.eodLatch || decide (s.limit ≤ s.cursor.toNat)

/-- endOfData() (R124). -/
def State.endOfData (s : State) : Bool := s.dec.pend.isEmpty && s.atEnd

/-- LIFE = CONFIGURED. -/
def State.isConfigured (s : State) : Bool := decide (s.life = .configured)

/-- FAULTREG != 0: the block is faulted (R33). -/
def State.isFaulted (s : State) : Bool := decide (s.faultReg ≠ 0#4)

/-- CHANNELS = 2. -/
def State.isStereo (s : State) : Bool := decide (s.conf.channels = .stereo)

/-- The STATUS word of its fields: ERR at [11:8], then FAULTED, CURSOR_VALID, SHORT_READ, STEREO, EOD and CONFIGURED at bits
5 to 0; bits [31:12] and [7:6] are 0 (R40). -/
def statusWord (configured eod stereo short valid faulted : Bool) (err : BitVec 4) : Word32 :=
  (0#20 ++ err ++ 0#2 ++ BitVec.ofBool faulted ++ BitVec.ofBool valid ++ BitVec.ofBool short ++
    BitVec.ofBool stereo ++ BitVec.ofBool eod ++ BitVec.ofBool configured : BitVec 32)

/-- STATUS recomputed from the state at the end of a command, with the SHORT_READ and ERR the command set (R40, R128). -/
def State.statusNow (s : State) (short : Bool) (err : Err) : Word32 :=
  statusWord s.isConfigured (s.isConfigured && s.cursorValid && s.endOfData) (s.isConfigured && s.isStereo) short
    (s.isConfigured && s.cursorValid) s.isFaulted err.code

end Sys2Proof.Machine
end

