-- ==== Sys2Proof/Machine/Ops.lean ====
section
/-! DEFINITION. The shared operations: register access (10_state.md R35-R42), the channel file, PEND and the cursor, the unit
check of 40_commands.md R121 and R123, reset() (R120), the end of a command (R128), refusing (60_exceptions.md R254), raising a
fault (R256), the pre-checks (R111), the sample port (20_memory.md R75) and the service of one host request. -/

namespace Sys2Proof.Machine

/-! ### Updates of one part of the state -/

/-- CH[k] (R22). -/
def State.ch (s : State) : Chan → Channel
  | .zero => s.dec.ch0
  | .one => s.dec.ch1

/-- `CH[k] <- c`. -/
def State.setCh (s : State) (k : Chan) (c : Channel) : State :=
  match k with
  | .zero => { s with dec := { s.dec with ch0 := c } }
  | .one => { s with dec := { s.dec with ch1 := c } }

/-- `PEND <- p`. -/
def State.setPend (s : State) (p : List Sample) : State := { s with dec := { s.dec with pend := p } }

/-- `Emit`, for several samples in order: `PEND.push` of each (R12, R14). -/
def State.emit (s : State) (xs : List Sample) : State := s.setPend (s.dec.pend ++ xs)

/-- `CURSOR <- CURSOR + n`. The unit check keeps the sum at most LIMIT, so it does not wrap (R30; log entry 15). -/
def State.advance (s : State) (n : Nat) : State := { s with cursor := BitVec.ofNat 32 (s.cursor.toNat + n) }

/-- `BLOCKREM <- r`. -/
def State.setBlockRem (s : State) (r : Word32) : State := { s with dec := { s.dec with blockRem := r } }

/-- `BLOCKREM <- BLOCKREM - n` (log entry 15). -/
def State.consume (s : State) (n : Nat) : State := s.setBlockRem (s.dec.blockRem - BitVec.ofNat 32 n)

/-- `BLOCKREM <- BA - n`, after a header of n bytes (log entry 15). -/
def State.beginBlock (s : State) (n : Nat) : State := s.setBlockRem (s.conf.blockAlign - BitVec.ofNat 32 n)

/-- `TOPNIB <- t; LASTBYTE <- b` (R29). -/
def State.setNibble (s : State) (t : Bool) (b : Byte) : State :=
  { s with dec := { s.dec with topNib := t, lastByte := b } }

/-- `EODLATCH <- 1` (R32). -/
def State.latchEnd (s : State) : State := { s with dec := { s.dec with eodLatch := true } }

/-- FAULTREG <- f (R256). -/
def State.raise (s : State) (f : FaultCode) : State := { s with faultReg := f.code }

/-- reset() (R120): CH, the trackers, PEND and EODLATCH; nothing else. -/
def State.resetDecoder (s : State) : State := { s with dec := Decoder.zero }

/-! ### Reading the source relative to the cursor -/

/-- `CURSOR + o` as an exact offset (R8). -/
abbrev State.addr (s : State) (o : Nat) : Nat := s.cursor.toNat + o

/-- `MemRead(CURSOR + o, 1)`. -/
def State.byteAt (s : State) (o : Nat) : Byte := srcByte s.src (s.addr o)

/-- Every byte a unit reads, at the given offsets from CURSOR, is below LIMIT (R121). -/
def State.available (s : State) (offs : List Nat) : Bool := offs.all fun o => decide (s.addr o < s.limit)

/-- What a unit reads once the host has changed the source under a configured decoder: a free byte at each of its offsets
(70_reset_and_hazards.md R286; log entry 25). -/
def State.freeSource (s : State) (offs : List Nat) : List Host.Cell :=
  (offs.map fun o => (s.addr o, Config.freeByte s.draws o)) ++ s.src

/-- The samples such a unit pushes: as many as its rule says, each free (93_implementation_defined.md U7; log entry 25). -/
def freeSamples (draw count : Nat) : List Sample := (List.range count).map (Config.freeSample draw)

/-- The state a unit leaves in such a block, from what its rule computes of the free bytes: its samples are free, the source stays
as it is, and a draw is taken (log entry 25). -/
def State.unpredictable (s t : State) : State :=
  { t with
    src := s.src
    draws := s.draws + 1
    dec := { t.dec with
      pend := s.dec.pend ++ freeSamples s.draws (t.dec.pend.length - s.dec.pend.length) } }

/-- A unit: performed when every byte it reads is below LIMIT; otherwise it reads nothing, changes no CH field, tracker or
CURSOR, and sets EODLATCH (R121, R123). After the host has changed the source under a configured decoder its samples are
unpredictable (R286). -/
def performUnit (offs : List Nat) (body : State → State) (s : State) : State :=
  if s.available offs then
    if s.srcChanged then s.unpredictable (body { s with src := s.freeSource offs }) else body s
  else s.latchEnd

/-- The number of channels a unit works on (R96's n; log entry 9). -/
def State.unitChannels (s : State) : Nat := if s.isStereo then 2 else 1

/-! ### The end of a command -/

/-- RESULT and the STATUS update, which end every command (R110, R128). -/
def State.finish (s : State) (result : Word32) (short : Bool) (err : Err) : State :=
  { s with result := result, status := s.statusNow short err }

/-- `refuse(code)`: RESULT 0, the error code, and no other change of state (R111, R254). -/
def State.refuse (s : State) (err : Err) : State := s.finish 0#32 false err

/-- The pre-checks of R111 that a decoded command meets, before its own rule: the sticky fault, then the lifecycle. -/
def preChecked (need : Life) (body : State → State) (s : State) : State :=
  if s.isFaulted then s.refuse .cmdFaulted
  else if s.life = need then body s
  else match need with
    | .unconfigured => s.refuse .cmdAlreadyConfigured
    | .configured => s.refuse .cmdNotConfigured

/-- A command word that is no command: refused, the sticky fault first (R98, R111). -/
def illegalCommand (s : State) : State :=
  if s.isFaulted then s.refuse .cmdFaulted else s.refuse .cmdIllegal

/-- Delivery on the sample port: in order, into the host's buffer from its first place, the rest of it untouched (R75). -/
def State.deliver (s : State) (out : List Sample) : State :=
  { s with samplePort := s.samplePort ++ out, hostBuf := out ++ s.hostBuf.drop out.length }

/-- The draw counter after one draw (log entry 5). -/
def State.drawn (s : State) : State := { s with draws := s.draws + 1 }

/-! ### Host register access -/

/-- A host read of a register number (R35-R42): CMD and the reserved numbers read 0. -/
def readReg (s : State) (r : BitVec 4) : Word32 :=
  match r.toNat with
  | 1 => s.args.variant
  | 2 => s.args.channels
  | 3 => s.args.rate
  | 4 => s.args.blockAlign
  | 5 => s.args.start
  | 6 => s.args.endPos
  | 7 => s.args.flags
  | 8 => s.args.max
  | 9 => s.result
  | 10 => s.status
  | 11 => s.faultReg.setWidth 32
  | _ => 0#32

/-- A host write to a register number other than CMD (R35, R37, R42): the argument registers hold what is written; every other
number ignores it. -/
def writeReg (s : State) (r : BitVec 4) (v : Word32) : State :=
  match r.toNat with
  | 1 => { s with args := { s.args with variant := v } }
  | 2 => { s with args := { s.args with channels := v } }
  | 3 => { s with args := { s.args with rate := v } }
  | 4 => { s with args := { s.args with blockAlign := v } }
  | 5 => { s with args := { s.args with start := v } }
  | 6 => { s with args := { s.args with endPos := v } }
  | 7 => { s with args := { s.args with flags := v } }
  | 8 => { s with args := { s.args with max := v } }
  | _ => s

/-- Whether a source differs from the one the block has. -/
def State.differs (s : State) (src : List Host.Cell) (len : Word32) : Bool := decide (src ≠ s.src) || decide (len ≠ s.srcLen)

/-- The host sets the source: it becomes SRC and L. To change it while a decoder is configured breaks the host's duty, which the
block does not detect and after which the samples of every later unit are unpredictable (R62, R286; log entries 2 and 25). -/
def presentSource (bytes : List Byte) (s : State) : Host.Outcome State Fault Refusal :=
  if 2 ^ 32 ≤ bytes.length then .refused .sourceTooLong
  else
    let src := srcOfBytes 0 bytes
    let len := BitVec.ofNat 32 bytes.length
    .next { s with
      src := src
      srcLen := len
      srcChanged := s.srcChanged || decide (s.life = .configured) && s.differs src len }

/-- The service of one host request other than a command: a register read has no effect but its answer (log entry 7). -/
def serveAccess (q : Request) (s : State) : Host.Outcome State Fault Refusal :=
  match q with
  | .write r v => .next (writeReg s r v)
  | .read r => .next { s with readData := readReg s r }
  | .source bytes => presentSource bytes s

/-- The command word of a request, if it is a write to CMD (R36). -/
def commandWord : Request → Option Word32
  | .write r v => if r = 0#4 then some v else none
  | .read _ => none
  | .source _ => none

end Sys2Proof.Machine
end

