-- ==== Sys2Proof/Machine/Ima.lean ====
section
/-! DEFINITION. The IMA primitive and the headerless IMA variants (43_ima.md): IMA_STEP, IMA_GENERIC_BODY, DVI_BODY. -/

namespace Sys2Proof.Machine

/-- The magnitude of the IMA difference for step `step` and magnitude `m`: IMA_DIFF (R170, R171). -/
def imaDiff (f : ImaDiff) (step m : Nat) : Nat :=
  match f with
  | .doc => (step * m + step / 2) / 8
  | .mul8 => (2 * m + 1) * step / 8
  | .shiftAdd =>
    step / 8 + (if m / 4 % 2 = 1 then step else 0) + (if m / 2 % 2 = 1 then step / 2 else 0) +
      (if m % 2 = 1 then step / 4 else 0)

/-- A step index after a code: `clamp(INDEX + STEP_ADJUST[code], 0, hi)` (R160, R170). -/
def nextIndex (c : Config) (hi : Nat) (code : Code) (index : Byte) : Byte :=
  BitVec.ofInt 8 (clamp (index.toNat + stepAdjustEntry c code) 0 hi)

/-- IMA_STEP on one channel record (R170): the step is read with the INDEX from before the update, and the sample is PRED
after it. -/
def imaStepChannel (c : Config) (code : Code) (ch : Channel) : Channel :=
  { ch with
    pred := int16 (clamp16 (ch.pred.toInt +
      applySign code (imaDiff c.imaDiff (imaStepEntry c ch.index.toNat) (codeMag code))))
    index := nextIndex c 88 code ch.index }

/-- `IMA_STEP(k, code)` (R170). -/
def State.imaStep (s : State) (k : Chan) (code : Code) : State := s.setCh k (imaStepChannel s.cfg code (s.ch k))

/-- `Emit(IMA_STEP(k, code))`. -/
def State.imaEmit (s : State) (k : Chan) (code : Code) : State :=
  let t := s.imaStep k code
  t.emit [(t.ch k).pred]

/-- The body unit of the headerless IMA layout (R87, R173): a byte of two codes, both on CH[0] in mono, the first on CH[0] and
the second on CH[1] in stereo. -/
def imaStreamBody (o : NibbleOrder) (s : State) : State :=
  let b := s.byteAt 0
  ((s.advance 1).imaEmit .zero (firstCode o b)).imaEmit (if s.isStereo then .one else .zero) (secondCode o b)

/-- DVI_BODY, DW 0x20 (R173). -/
def dviBody : State → State :=
  performUnit [0] fun s => imaStreamBody s.cfg.nibbleOrder.dvi s

/-- IMA_GENERIC_BODY, DW 0x10: the DVI layout (R175). -/
def imaGenericBody : State → State :=
  performUnit [0] fun s => imaStreamBody s.cfg.nibbleOrder.imaGeneric s

/-- The meaning of DVI_BODY. -/
def execDviBody (s : State) : Host.Outcome State Fault Refusal := .next (dviBody s)

/-- The meaning of IMA_GENERIC_BODY. -/
def execImaGenericBody (s : State) : Host.Outcome State Fault Refusal := .next (imaGenericBody s)

/-- The meaning of IMA_STEP: CH[k] is updated; the sample it returns is CH[k].PRED (R170; log entry 8). -/
def execImaStep (k : Chan) (code : Code) (s : State) : Host.Outcome State Fault Refusal := .next (s.imaStep k code)

end Sys2Proof.Machine
end

