-- ==== Sys2Proof/Machine/AppleIma.lean ====
section
/-! DEFINITION. Apple QuickTime IMA (44_ima_blocked.md R190-R193): APPLE_IMA_HEADER, APPLE_IMA_BODY. -/

namespace Sys2Proof.Machine

/-- The channel record a preamble at address `a` loads: PRED and INDEX (R89, R190). -/
def applePreambleChannel (c : Config) (src : List Host.Cell) (a : Nat) (ch : Channel) : Channel :=
  let v := applePreamble c.applePreambleOrder src a
  { ch with pred := applePred v, index := appleIndex v }

/-- The offsets a header unit reads: the preamble of each channel, channel 1's at BA (R96, R190). -/
def appleHeaderOffsets (s : State) : List Nat :=
  if s.isStereo then [0, 1, s.conf.blockAlign.toNat, s.conf.blockAlign.toNat + 1] else [0, 1]

/-- The offsets a body unit reads (R96, R191, R192). -/
def appleBodyOffsets (s : State) : List Nat :=
  if s.isStereo then [0, s.conf.blockAlign.toNat] else [0]

/-- The preambles of the configured channels, each from its own chunk (R190). -/
def appleLoad (s : State) : State :=
  let t := s.setCh .zero (applePreambleChannel s.cfg s.src (s.addr 0) s.dec.ch0)
  if s.isStereo then
    t.setCh .one (applePreambleChannel s.cfg s.src (s.addr s.conf.blockAlign.toNat) s.dec.ch1)
  else t

/-- APPLE_IMA_HEADER, DW 0x31 (R190). -/
def appleImaHeader (s : State) : State :=
  performUnit (appleHeaderOffsets s) (fun s => ((appleLoad s).advance 2).beginBlock 2) s

/-- The codes of a mono body unit (R191). -/
def appleMonoBody (s : State) : State :=
  let b := s.byteAt 0
  let o := s.cfg.nibbleOrder.appleIma
  (((s.imaEmit .zero (firstCode o b)).imaEmit .zero (secondCode o b)).advance 1).consume 1

/-- The step past channel 1's chunk after the last body unit of a chunk pair (R192, R193). -/
def appleSkip (s : State) : State :=
  if s.dec.blockRem = 0#32 then s.advance s.conf.blockAlign.toNat else s

/-- The codes of a stereo body unit: two frames, left then right (R192). -/
def appleStereoBody (s : State) : State :=
  let b0 := s.byteAt 0
  let b1 := s.byteAt s.conf.blockAlign.toNat
  let o := s.cfg.nibbleOrder.appleIma
  let t := (s.imaEmit .zero (firstCode o b0)).imaEmit .one (firstCode o b1)
  let t := (t.imaEmit .zero (secondCode o b0)).imaEmit .one (secondCode o b1)
  appleSkip ((t.advance 1).consume 1)

/-- APPLE_IMA_BODY, DW 0x30 (R191, R192). -/
def appleImaBody (s : State) : State :=
  performUnit (appleBodyOffsets s) (fun s => if s.isStereo then appleStereoBody s else appleMonoBody s) s

/-- The meaning of APPLE_IMA_HEADER. -/
def execAppleImaHeader (s : State) : Host.Outcome State Fault Refusal := .next (appleImaHeader s)

/-- The meaning of APPLE_IMA_BODY. -/
def execAppleImaBody (s : State) : Host.Outcome State Fault Refusal := .next (appleImaBody s)

end Sys2Proof.Machine
end

