-- ==== Sys2Proof/Machine/Dk3.lean ====
section
/-! DEFINITION. Duck DK3 IMA (44_ima_blocked.md R210-R215): DK3_HEADER, DK3_BODY. -/

namespace Sys2Proof.Machine

/-- The channel record a header loads, its predictor at address `p` and its step index at address `x` (R93, R210). -/
def dk3HeaderChannel (src : List Host.Cell) (p x : Nat) (ch : Channel) : Channel :=
  { ch with pred := memInt16 src p, index := headerIndex (memRead src x 1) }

/-- DK3_HEADER, DW 0x61: 16 bytes, the sum pair on CH[0] and the difference pair on CH[1], where the parameter DK3_HEADER puts
them (R93, R210). -/
def dk3Header : State → State :=
  performUnit (List.range 16) fun s =>
    let h := s.cfg.dk3Layout
    let c0 := dk3HeaderChannel s.src (s.addr h.sumPred) (s.addr h.sumIndex) s.dec.ch0
    let c1 := dk3HeaderChannel s.src (s.addr h.diffPred) (s.addr h.diffIndex) s.dec.ch1
    ((((s.setCh .zero c0).setCh .one c1).setNibble false 0#8).advance 16).beginBlock 16

/-- The code NEXTNIB() returns (R211). -/
def nextNibCode (s : State) : Code := if s.dec.topNib then hi s.dec.lastByte else lo (s.byteAt 0)

/-- The state after NEXTNIB() (R211). -/
def nextNibState (s : State) : State :=
  if s.dec.topNib then s.setNibble false s.dec.lastByte
  else ((s.setNibble true (s.byteAt 0)).advance 1).consume 1

/-- `IMA_STEP(k, NEXTNIB())`, whose sample is not emitted (R212). -/
def State.dk3Step (s : State) (k : Chan) : State := (nextNibState s).imaStep k (nextNibCode s)

/-- `(L(), R())` of a sum and a difference predictor: DK3_COMBINE (R214; log entry 12). -/
def dk3Combine (m : Dk3Combine) (sum diff : Word16) : Sample × Sample :=
  match m with
  | .sumDiff => (int16 (clamp16 (sum.toInt + diff.toInt)), int16 (clamp16 (sum.toInt - diff.toInt)))
  | .unstated => Config.dk3Other sum diff

/-- `Emit(L()); Emit(R())` (R212, R214). -/
def State.dk3Emit (s : State) : State :=
  let f := dk3Combine s.cfg.dk3Combine s.dec.ch0.pred s.dec.ch1.pred
  s.emit [f.1, f.2]

/-- The offsets a body unit reads: under SDS two bytes when TOPNIB = 0 and one when TOPNIB = 1; under SD one (R96). -/
def dk3BodyOffsets (s : State) : List Nat :=
  match s.cfg.dk3Schedule with
  | .sds => if s.dec.topNib then [0] else [0, 1]
  | .sd => [0]

/-- The three nibbles of a body unit under DK3_SCHEDULE = SDS: sum, difference, frame, sum, frame (R212). -/
def dk3SdsBody (s : State) : State := ((((s.dk3Step .zero).dk3Step .one).dk3Emit).dk3Step .zero).dk3Emit

/-- The two nibbles of a body unit under DK3_SCHEDULE = SD (R213). -/
def dk3SdBody (s : State) : State := ((s.dk3Step .zero).dk3Step .one).dk3Emit

/-- DK3_BODY, DW 0x60 (R212, R213). -/
def dk3Body (s : State) : State :=
  performUnit (dk3BodyOffsets s)
    (fun s => match s.cfg.dk3Schedule with
      | .sds => dk3SdsBody s
      | .sd => dk3SdBody s) s

/-- The meaning of DK3_HEADER. -/
def execDk3Header (s : State) : Host.Outcome State Fault Refusal := .next (dk3Header s)

/-- The meaning of DK3_BODY. -/
def execDk3Body (s : State) : Host.Outcome State Fault Refusal := .next (dk3Body s)

end Sys2Proof.Machine
end

