-- ==== Sys2Proof/Machine/MsAdpcm.lean ====
section
/-! DEFINITION. The Microsoft ADPCM decoder (45_ms_adpcm.md): MSADPCM_STEP, MS_ADPCM_HEADER, MS_ADPCM_BODY. -/

namespace Sys2Proof.Machine

/-- The sum the prediction divides: MSADPCM_HISTORY (R230, R231). -/
def msHistorySum (h : History) (ch : Channel) : Int :=
  match h with
  | .doc => ch.s1.toInt * ch.coef1.toInt + ch.s2.toInt * ch.coef2.toInt
  | .newestCoeff1 => ch.s2.toInt * ch.coef1.toInt + ch.s1.toInt * ch.coef2.toInt

/-- The division by 256 of the prediction: MSADPCM_PRED_DIV (R230, R231). -/
def msPredDiv (d : PredDiv) (v : Int) : Int :=
  match d with
  | .floor => v / 256
  | .trunc => v.tdiv 256

/-- `predicted` (R230). -/
def msPredicted (c : Config) (ch : Channel) : Int := msPredDiv c.predDiv (msHistorySum c.history ch)

/-- `output`, computed with DELTA from before the update (R230). -/
def msOutput (c : Config) (code : Code) (ch : Channel) : Sample :=
  int16 (clamp16 (msPredicted c ch + codeSigned code * ch.delta.toInt))

/-- The exact new delta `nd` (R230). -/
def msNextDelta (c : Config) (code : Code) (ch : Channel) : Int :=
  max (ch.delta.toInt * adaptEntry c (codeSigned code).natAbs / 256) c.minDelta.toInt

/-- MSADPCM_STEP on one channel record (R230); none when the new delta exceeds 2^31 - 1 (R232). The sample is S2 after it. -/
def msStepChannel (c : Config) (code : Code) (ch : Channel) : Option Channel :=
  if 2 ^ 31 - 1 < msNextDelta c code ch then none
  else some { ch with
    s1 := ch.s2
    s2 := msOutput c code ch
    delta := BitVec.ofInt 32 (msNextDelta c code ch) }

/-- `Emit(MSADPCM_STEP(k, c))`; none when it raises DELTA_OVERFLOW. -/
def State.msEmit (s : State) (k : Chan) (code : Code) : Option State :=
  match msStepChannel s.cfg code (s.ch k) with
  | none => none
  | some ch => some ((s.setCh k ch).emit [ch.s2])

/-- The channel record a header loads for channel `c` of `n`: MODE, the coefficient pair it selects, DELTA and the two seeds
(R95, R233). -/
def msHeaderChannel (cfg : Config) (src : List Host.Cell) (base n c : Nat) (ch : Channel) : Channel :=
  let m := headerMode cfg (srcByte src (base + c))
  { ch with
    mode := m
    coef1 := (coefEntry cfg m.toNat).1
    coef2 := (coefEntry cfg m.toNat).2
    delta := headerDelta (memInt16 src (base + n + 2 * c))
    s2 := memInt16 src (base + 3 * n + 2 * c)
    s1 := memInt16 src (base + 5 * n + 2 * c) }

/-- The header of a mono block: the older seed, then the newer (R233). -/
def msMonoHeader (s : State) : State :=
  let c0 := msHeaderChannel s.cfg s.src (s.addr 0) 1 0 s.dec.ch0
  (s.setCh .zero c0).emit [c0.s1, c0.s2]

/-- The header of a stereo block: the older frame, then the newer (R233). -/
def msStereoHeader (s : State) : State :=
  let c0 := msHeaderChannel s.cfg s.src (s.addr 0) 2 0 s.dec.ch0
  let c1 := msHeaderChannel s.cfg s.src (s.addr 0) 2 1 s.dec.ch1
  ((s.setCh .zero c0).setCh .one c1).emit [c0.s1, c1.s1, c0.s2, c1.s2]

/-- MS_ADPCM_HEADER, DW 0x71 (R233). -/
def msAdpcmHeader (s : State) : State :=
  performUnit (List.range (7 * s.unitChannels))
    (fun s => ((if s.isStereo then msStereoHeader s else msMonoHeader s).advance (7 * s.unitChannels)).beginBlock
      (7 * s.unitChannels)) s

/-- The two codes of a body byte, both on CH[0] in mono, one on each channel in stereo; none when either overflows (R234). -/
def msBodyCodes (s : State) : Option State :=
  let b := s.byteAt 0
  let o := s.cfg.nibbleOrder.msAdpcm
  match s.msEmit .zero (firstCode o b) with
  | none => none
  | some t => t.msEmit (if s.isStereo then .one else .zero) (secondCode o b)

/-- MS_ADPCM_BODY, DW 0x70 (R234): when either code raises DELTA_OVERFLOW the unit writes nothing but FAULTREG (R232). -/
def msAdpcmBody : State → State :=
  performUnit [0] fun s =>
    match msBodyCodes s with
    | none => s.raise .deltaOverflow
    | some t => (t.advance 1).consume 1

/-- The meaning of MS_ADPCM_HEADER. -/
def execMsAdpcmHeader (s : State) : Host.Outcome State Fault Refusal := .next (msAdpcmHeader s)

/-- The meaning of MS_ADPCM_BODY. -/
def execMsAdpcmBody (s : State) : Host.Outcome State Fault Refusal := .next (msAdpcmBody s)

/-- The meaning of MSADPCM_STEP: CH[k] is updated, and the sample it returns is CH[k].S2; or the fault DELTA_OVERFLOW is raised
and nothing else written (R230, R232; log entry 8). -/
def execMsAdpcmStep (k : Chan) (code : Code) (s : State) : Host.Outcome State Fault Refusal :=
  match msStepChannel s.cfg code (s.ch k) with
  | none => .next (s.raise .deltaOverflow)
  | some ch => .next (s.setCh k ch)

end Sys2Proof.Machine
end

