-- ==== Sys2Proof/Machine/MsIma.lean ====
section
/-! DEFINITION. Microsoft IMA (44_ima_blocked.md R200-R204): MSIMA_MONO_HEADER, MSIMA_MONO_BODY, MSIMA_STEREO_HEADER,
MSIMA_STEREO_BODY. -/

namespace Sys2Proof.Machine

/-- The channel record a header entry at address `a` loads: PRED and INDEX; byte `a + 3` is ignored (R90, R200). -/
def msimaHeaderChannel (src : List Host.Cell) (a : Nat) (ch : Channel) : Channel :=
  { ch with pred := memInt16 src a, index := headerIndex (memRead src (a + 2) 1) }

/-- The header's samples, if MSIMA_EMIT_HEADER_SAMPLE (R200). -/
def headerSamples (c : Config) (xs : List Sample) : List Sample := if c.msimaEmitHeaderSample then xs else []

/-- `inv(c)` (R203). -/
def msimaInv (c : Config) (invert : Bool) (code : Code) : Code :=
  if invert && decide (c.invertMode = .nibbleSign) then code ^^^ 8#4 else code

/-- `out(s)` (R203). -/
def msimaOut (c : Config) (invert : Bool) (x : Sample) : Sample :=
  if invert && decide (c.invertMode = .outputNegate) then int16 (clamp16 (-x.toInt)) else x

/-- The nibble order of an MSIMA byte (R86, R203). -/
def msimaOrder (c : Config) (invert : Bool) : NibbleOrder :=
  if invert && decide (c.invertMode = .nibbleOrderSwap) then swapOrder c.nibbleOrder.msima else c.nibbleOrder.msima

/-- MSIMA_MONO_HEADER, DW 0x41 (R200). -/
def msimaMonoHeader : State → State :=
  performUnit [0, 1, 2, 3] fun s =>
    let c0 := msimaHeaderChannel s.src (s.addr 0) s.dec.ch0
    (((s.setCh .zero c0).emit (headerSamples s.cfg [c0.pred])).advance 4).beginBlock 4

/-- MSIMA_STEREO_HEADER, DW 0x51 (R200). -/
def msimaStereoHeader : State → State :=
  performUnit [0, 1, 2, 3, 4, 5, 6, 7] fun s =>
    let c0 := msimaHeaderChannel s.src (s.addr 0) s.dec.ch0
    let c1 := msimaHeaderChannel s.src (s.addr 4) s.dec.ch1
    ((((s.setCh .zero c0).setCh .one c1).emit (headerSamples s.cfg [c0.pred, c1.pred])).advance 8).beginBlock 8

/-- `Emit(out(IMA_STEP(k, inv(code))))` (R201). -/
def State.msimaEmit (s : State) (k : Chan) (code : Code) : State :=
  let t := s.imaStep k (msimaInv s.cfg s.conf.invert code)
  t.emit [msimaOut t.cfg t.conf.invert (t.ch k).pred]

/-- MSIMA_MONO_BODY, DW 0x40 (R201). -/
def msimaMonoBody : State → State :=
  performUnit [0] fun s =>
    let b := s.byteAt 0
    let o := msimaOrder s.cfg s.conf.invert
    (((s.msimaEmit .zero (firstCode o b)).msimaEmit .zero (secondCode o b)).advance 1).consume 1

/-- The codes of a run of bytes in decoding order (R91). -/
def codesOf (o : NibbleOrder) (bs : List Byte) : List Code := bs.flatMap fun b => [firstCode o b, secondCode o b]

/-- A channel's record and its samples after a run of codes (R202). -/
def msimaRun (c : Config) (invert : Bool) : List Code → Channel → Channel × List Sample
  | [], ch => (ch, [])
  | code :: rest, ch =>
    let ch' := imaStepChannel c (msimaInv c invert code) ch
    let r := msimaRun c invert rest ch'
    (r.1, msimaOut c invert ch'.pred :: r.2)

/-- Frames of a left and a right sample sequence (R202). -/
def interleave : List Sample → List Sample → List Sample
  | l :: ls, r :: rs => l :: r :: interleave ls rs
  | _, _ => []

/-- MSIMA_STEREO_BODY, DW 0x50: a group of 4 bytes for channel 0 and 4 bytes for channel 1, output as 8 frames (R91, R202). -/
def msimaStereoBody : State → State :=
  performUnit [0, 1, 2, 3, 4, 5, 6, 7] fun s =>
    let o := msimaOrder s.cfg s.conf.invert
    let r0 := msimaRun s.cfg s.conf.invert (codesOf o ([0, 1, 2, 3].map s.byteAt)) s.dec.ch0
    let r1 := msimaRun s.cfg s.conf.invert (codesOf o ([4, 5, 6, 7].map s.byteAt)) s.dec.ch1
    ((((s.setCh .zero r0.1).setCh .one r1.1).emit (interleave r0.2 r1.2)).advance 8).consume 8

/-- The meaning of MSIMA_MONO_HEADER. -/
def execMsimaMonoHeader (s : State) : Host.Outcome State Fault Refusal := .next (msimaMonoHeader s)

/-- The meaning of MSIMA_MONO_BODY. -/
def execMsimaMonoBody (s : State) : Host.Outcome State Fault Refusal := .next (msimaMonoBody s)

/-- The meaning of MSIMA_STEREO_HEADER. -/
def execMsimaStereoHeader (s : State) : Host.Outcome State Fault Refusal := .next (msimaStereoHeader s)

/-- The meaning of MSIMA_STEREO_BODY. -/
def execMsimaStereoBody (s : State) : Host.Outcome State Fault Refusal := .next (msimaStereoBody s)

end Sys2Proof.Machine
end

