-- ==== Sys2Proof/Machine/Oki.lean ====
section
/-! DEFINITION. The OKI / VOX decoder (42_oki.md): OKI_STEP, OKI_BODY. -/

namespace Sys2Proof.Machine

/-- OKI_STEP on one channel record (R160): the predictor is clamped to 12 bits; the table is read with the INDEX from before
the update. -/
def okiStepChannel (c : Config) (code : Code) (ch : Channel) : Channel :=
  { ch with
    pred := int16 (clamp (ch.pred.toInt + applySign code (okiDiffEntry c ch.index.toNat (codeMag code))) (-2048) 2047)
    index := nextIndex c c.okiIndexMax.toNat code ch.index }

/-- `widen(p)` (R163). -/
def okiWiden (w : OkiWiden) (p : Word16) : Sample :=
  match w with
  | .shl4 => int16 (p.toInt * 16)
  | .sext => p

/-- `OKI_STEP(k, code)` (R160). -/
def State.okiStep (s : State) (k : Chan) (code : Code) : State := s.setCh k (okiStepChannel s.cfg code (s.ch k))

/-- `Emit(OKI_STEP(k, code))`. -/
def State.okiEmit (s : State) (k : Chan) (code : Code) : State :=
  let t := s.okiStep k code
  t.emit [okiWiden t.cfg.okiWiden (t.ch k).pred]

/-- The channel of the second code of a byte (R162); the first is always on CH[0]. -/
def okiSecondChan (s : State) : Chan :=
  if s.isStereo && decide (s.cfg.okiStereo = .perChannel) then .one else .zero

/-- OKI_BODY, DW 0x00 (R161). -/
def okiBody : State → State :=
  performUnit [0] fun s =>
    let b := s.byteAt 0
    let o := s.cfg.nibbleOrder.oki
    ((s.advance 1).okiEmit .zero (firstCode o b)).okiEmit (okiSecondChan s) (secondCode o b)

/-- The meaning of OKI_BODY. -/
def execOkiBody (s : State) : Host.Outcome State Fault Refusal := .next (okiBody s)

/-- The meaning of OKI_STEP: CH[k] is updated; the sample it returns is `widen(CH[k].PRED)` (R160; log entry 8). -/
def execOkiStep (k : Chan) (code : Code) (s : State) : Host.Outcome State Fault Refusal := .next (s.okiStep k code)

end Sys2Proof.Machine
end

