-- ==== Sys2Proof/Machine/Engine.lean ====
section
/-! DEFINITION. The decode engine (40_commands.md R121-R125): the dispatch word, and ReadLoop. -/

namespace Sys2Proof.Machine

/-- BLOCKED, the variants that have blocks or chunks with a header (R112). -/
def isBlocked : Variant → Bool
  | .oki | .imaGeneric | .dvi => false
  | .appleIma | .msimaMono | .msimaStereo | .dk3 | .msAdpcm => true

/-- PHASE: 1 when the variant is blocked and BLOCKREM = 0, else 0 (R122). -/
def State.phase (s : State) : Nat := if isBlocked s.conf.variant && decide (s.dec.blockRem = 0#32) then 1 else 0

/-- The dispatch word DW = VARIANT << 4 | PHASE (R83, R122). -/
def State.dispatchWord (s : State) : Byte := BitVec.ofNat 8 (16 * s.conf.variant.code + s.phase)

/-- The unit rule of a dispatch word (R96). Commands and nibble primitives are not units and are never dispatched (R99). -/
def runUnit (i : Instr) (s : State) : State :=
  match i with
  | .okiBody => okiBody s
  | .imaGenericBody => imaGenericBody s
  | .dviBody => dviBody s
  | .appleImaHeader => appleImaHeader s
  | .appleImaBody => appleImaBody s
  | .msimaMonoHeader => msimaMonoHeader s
  | .msimaMonoBody => msimaMonoBody s
  | .msimaStereoHeader => msimaStereoHeader s
  | .msimaStereoBody => msimaStereoBody s
  | .dk3Header => dk3Header s
  | .dk3Body => dk3Body s
  | .msAdpcmHeader => msAdpcmHeader s
  | .msAdpcmBody => msAdpcmBody s
  | .configure | .readBuffer | .endOfData | .isStereo | .getRate | .rewind | .release => s
  | .imaStep _ _ | .okiStep _ _ | .msAdpcmStep _ _ => s

/-- The engine performs the unit its dispatch word names (R121, R122). -/
def dispatchUnit (s : State) : State :=
  match decodeDispatch s.dispatchWord with
  | .ok i => runUnit i s
  | .error _ => s

/-- ReadLoop(max) (R121): the samples collected and the state after. The loop ends when `max` samples are collected, at the end
of data, or at a fault (R256). A cut-off unit sets EODLATCH (R123), and the next turn finds PEND empty and the latch set.
`fuel` bounds the turns; R125's bound is given by `readFuel`. -/
def readLoop : Nat → Nat → List Sample → State → List Sample × State
  | 0, _, out, s => (out, s)
  | fuel + 1, max, out, s =>
    if max ≤ out.length then (out, s)
    else match s.dec.pend with
      | x :: rest => readLoop fuel max (out ++ [x]) (s.setPend rest)
      | [] => if s.isFaulted || s.atEnd then (out, s) else readLoop fuel max out (dispatchUnit s)

/-- A bound on the turns of ReadLoop: one a sample, one a unit, each unit moving CURSOR on by at least one byte below LIMIT, and
the last (R125; log entry 14). -/
def readFuel (max : Nat) (s : State) : Nat := max + (s.limit - s.cursor.toNat) + 2

/-- ReadLoop(max) from an empty `out`. -/
def readSamples (max : Nat) (s : State) : List Sample × State := readLoop (readFuel max s) max [] s

end Sys2Proof.Machine
end

