-- ==== Sys2Proof/Machine/Commands.lean ====
section
/-! DEFINITION. The host commands (40_commands.md R110-R120, R127). Every command is one transition: the pre-checks, its own
rule, the STATUS update (R110). -/

namespace Sys2Proof.Machine

/-! ### CONFIGURE -/

/-- The variants tied to a channel count (R112): DK3 and MSIMA_STEREO to two, MSIMA_MONO to one. -/
def channelsAllowed (v : Variant) (n : ChannelCount) : Bool :=
  match v with
  | .dk3 | .msimaStereo => decide (n = .stereo)
  | .msimaMono => decide (n = .mono)
  | .oki | .imaGeneric | .dvi | .appleIma | .msAdpcm => true

/-- The variants for which INVERT is legal (R112, R203). -/
def invertAllowed (v : Variant) : Bool :=
  match v with
  | .msimaMono | .msimaStereo => true
  | .oki | .imaGeneric | .dvi | .appleIma | .dk3 | .msAdpcm => false

/-- NPU, the nibbles of a DK3 body unit (R113). -/
def dk3NibblesPerUnit : Dk3Schedule → Nat
  | .sds => 3
  | .sd => 2

/-- geometryOK(v, n, ba) (R113); true for a variant without blocks. -/
def geometryOK (c : Config) (v : Variant) (n : ChannelCount) (ba : Nat) : Bool :=
  match v with
  | .oki | .imaGeneric | .dvi => true
  | .appleIma => decide (3 ≤ ba)
  | .msimaMono => decide (5 ≤ ba)
  | .msimaStereo => decide (16 ≤ ba) && decide ((ba - 8) % 8 = 0)
  | .dk3 => decide (17 ≤ ba) && decide (2 * (ba - 16) % dk3NibblesPerUnit c.dk3Schedule = 0)
  | .msAdpcm => decide (7 * n.count + 1 ≤ ba)

/-- The outcome of CONFIGURE's checks, in the order of R112 and 60_exceptions.md R258: the configuration to latch, or the error. -/
def configureCheck (c : Config) (a : ArgRegs) : Except Err ActiveConf :=
  if flagReserved a.flags ≠ 0 then .error .cfgReservedFlags
  else match Variant.ofCode a.variant.toNat with
    | none => .error .cfgBadVariant
    | some v =>
      match argChannels a.channels with
      | none => .error .cfgBadChannels
      | some n =>
        if !channelsAllowed v n then .error .cfgVariantChannels
        else if flagInvert a.flags && !invertAllowed v then .error .cfgReservedFlags
        else if isBlocked v && decide (a.blockAlign = 0#32) then .error .cfgZeroBlockAlign
        else if isBlocked v && !geometryOK c v n a.blockAlign.toNat then .error .cfgBadGeometry
        else if a.endPos.toNat < a.start.toNat then .error .cfgBadRange
        else .ok
          { variant := v
            channels := n
            rate := a.rate
            blockAlign := a.blockAlign
            start := a.start
            endPos := a.endPos
            invert := flagInvert a.flags
            dispose := flagDispose a.flags }

/-- The state CONFIGURE leaves when its checks pass, before RESULT and STATUS (R112). -/
def State.latch (s : State) (cf : ActiveConf) : State :=
  { s with conf := cf, life := .configured, cursor := cf.start, cursorValid := true }.resetDecoder

/-- The rule of CONFIGURE (R112); an error changes nothing but RESULT and STATUS (R251). -/
def configureBody (s : State) : State :=
  match configureCheck s.cfg s.args with
  | .ok cf => (s.latch cf).finish 1#32 false .none
  | .error e => s.finish 0#32 false e

/-- CONFIGURE, CMD 0x01 (R112). -/
def execConfigure (s : State) : Host.Outcome State Fault Refusal :=
  .next (preChecked .unconfigured configureBody s)

/-! ### READ_BUFFER -/

/-- G, the granule of STRICT_GRANULE (R127). -/
def granule (s : State) : Nat :=
  match s.conf.variant with
  | .dk3 =>
    match s.cfg.dk3Schedule with
    | .sds => 4
    | .sd => s.conf.channels.count
  | .oki | .imaGeneric | .dvi | .appleIma | .msimaMono | .msimaStereo | .msAdpcm => s.conf.channels.count

/-- The end of a READ_BUFFER that collected `out` (R114): the samples are delivered, RESULT is their count; a fault raised on the
way is reported as FAULT and is not a short read (R256, R259). -/
def finishRead (max : Nat) (out : List Sample) (s : State) : State :=
  let t := s.deliver out
  if s.isFaulted then t.finish (BitVec.ofNat 32 out.length) false .fault
  else t.finish (BitVec.ofNat 32 out.length) (decide (out.length < max))
    (if out.length < max then .truncated else .none)

/-- The rule of READ_BUFFER (R114), its checks in the order of R259. -/
def readBufferBody (s : State) : State :=
  if maxNegative s.args.max then s.refuse .cmdBadArg
  else if !s.cursorValid then finishRead (maxSamples s.args.max) [] (s.raise .positionUndefined)
  else if s.cfg.strictGranule && decide (maxSamples s.args.max % granule s ≠ 0) then s.refuse .cmdBadArg
  else
    let r := readSamples (maxSamples s.args.max) s
    finishRead (maxSamples s.args.max) r.1 r.2

/-- READ_BUFFER, CMD 0x02 (R114). -/
def execReadBuffer (s : State) : Host.Outcome State Fault Refusal :=
  .next (preChecked .configured readBufferBody s)

/-! ### The queries -/

/-- A Boolean as a RESULT (R39). -/
def boolResult (b : Bool) : Word32 := if b then 1#32 else 0#32

/-- The rule of END_OF_DATA (R115): at an undefined position the answer is a free draw (log entry 5). -/
def endOfDataBody (s : State) : State :=
  if s.cursorValid then s.finish (boolResult s.endOfData) false .none
  else s.drawn.finish (boolResult (Config.eodDraw s.draws)) false .none

/-- END_OF_DATA, CMD 0x03 (R115). -/
def execEndOfData (s : State) : Host.Outcome State Fault Refusal :=
  .next (preChecked .configured endOfDataBody s)

/-- IS_STEREO, CMD 0x04 (R116). -/
def execIsStereo (s : State) : Host.Outcome State Fault Refusal :=
  .next (preChecked .configured (fun s => s.finish (boolResult s.isStereo) false .none) s)

/-- GET_RATE, CMD 0x05 (R117). -/
def execGetRate (s : State) : Host.Outcome State Fault Refusal :=
  .next (preChecked .configured (fun s => s.finish s.conf.rate false .none) s)

/-! ### REWIND and RELEASE -/

/-- REWIND with the outcome of its seek (R118): the decoder is reset either way; a failed seek leaves the position undefined. -/
def rewindWith (seekOk : Bool) (s : State) : State :=
  if seekOk then
    { s.resetDecoder with cursor := s.conf.start, cursorValid := true }.finish 1#32 false .none
  else
    { s.resetDecoder with cursorValid := false }.finish 0#32 false .seekFailed

/-- REWIND, CMD 0x06 (R118): the outcome of the seek is a free draw (20_memory.md R74; log entry 5). -/
def execRewind (s : State) : Host.Outcome State Fault Refusal :=
  .next (preChecked .configured (fun s => rewindWith (Config.seekOk s.draws) s.drawn) s)

/-- The rule of RELEASE (R119): the configuration and the decoder are zeroed; DISPOSE has no modelled effect (log entry 17). -/
def releaseBody (s : State) : State :=
  { s.resetDecoder with
    life := .unconfigured, conf := ActiveConf.zero, cursor := 0#32, cursorValid := false }.finish 1#32 false .none

/-- RELEASE, CMD 0x07 (R119). -/
def execRelease (s : State) : Host.Outcome State Fault Refusal :=
  .next (preChecked .configured releaseBody s)

/-! ### Placing one instruction for the next step (log entry 9) -/

/-- A command placed as the host's next request. -/
def placeCommand (v : Word32) (s : State) : State := { s with pending := .write 0#4 v :: s.pending }

/-- A channel count a variant allows. -/
def placedChannels (v : Variant) : ChannelCount := if channelsAllowed v .mono then .mono else .stereo

/-- A block alignment that meets geometryOK (R113). -/
def placedBlockAlign : Variant → Nat
  | .oki | .imaGeneric | .dvi => 0
  | .appleIma => 3
  | .msimaMono => 5
  | .msimaStereo => 16
  | .dk3 => 19
  | .msAdpcm => 8

/-- The length of a header at the placed channel count (R96). -/
def placedHeaderBytes : Variant → Nat
  | .oki | .imaGeneric | .dvi => 0
  | .appleIma => 2
  | .msimaMono => 4
  | .msimaStereo => 8
  | .dk3 => 16
  | .msAdpcm => 7

/-- The length of a body unit at the placed channel count, with TOPNIB = 0 (R96). -/
def placedBodyBytes (c : Config) : Variant → Nat
  | .oki | .imaGeneric | .dvi | .appleIma | .msimaMono | .msAdpcm => 1
  | .msimaStereo => 8
  | .dk3 =>
    match c.dk3Schedule with
    | .sds => 2
    | .sd => 1

/-- The state in which READ_BUFFER, as the host's next request, performs exactly one unit of variant `v`, its header or its body:
configured for the variant, the cursor before the unit, LIMIT right after it. -/
def placeUnit (v : Variant) (header : Bool) (s : State) : State :=
  let len := if header then placedHeaderBytes v else placedBodyBytes s.cfg v
  placeCommand 2#32
    { s with
      life := .configured
      faultReg := 0#4
      conf := { s.conf with
        variant := v
        channels := placedChannels v
        blockAlign := BitVec.ofNat 32 (placedBlockAlign v)
        start := 0#32
        endPos := BitVec.ofNat 32 len
        invert := false }
      dec := { s.dec with
        blockRem := if header then 0#32 else BitVec.ofNat 32 (placedBlockAlign v - placedHeaderBytes v)
        topNib := false
        pend := []
        eodLatch := false }
      cursor := 0#32
      cursorValid := true
      args := { s.args with max := 4#32 }
      srcLen := BitVec.ofNat 32 (max s.srcLen.toNat len) }

/-- The state in which the next step decodes the code `c` by IMA_STEP on channel 0: the DVI unit whose first code it is. -/
def placeCode (c : Code) (s : State) : State :=
  placeUnit .dvi false
    { s with
      src := srcOfBytes 0 [c.setWidth 8]
      srcLen := 1#32
      srcChanged := false
      cfg := { s.cfg with nibbleOrder := { s.cfg.nibbleOrder with dvi := .loFirst } } }

/-- The state in which the next step runs the encoded instruction; a word that is none leaves the state alone, but a word
written to CMD is placed whatever it is, as the host can write it. -/
def placeEncoded (e : Encoded) (s : State) : State :=
  match e with
  | .cmd v => placeCommand v s
  | .dw w =>
    match decodeDispatch w, Variant.ofCode (w.toNat / 16) with
    | .ok _, some v => placeUnit v (decide (w.toNat % 16 = 1)) s
    | .ok _, none | .error _, _ => s
  | .code _ _ c => placeCode c s

end Sys2Proof.Machine
end

