-- ==== Sys2Proof/Machine/Dispatch.lean ====
section
/-! DEFINITION. exec: one arm for each constructor of Instr. -/

namespace Sys2Proof.Machine

def exec (i : Instr) (s : State) : Host.Outcome State Fault Refusal :=
  match i with
  | .configure => Sys2Proof.Machine.execConfigure s
  | .readBuffer => Sys2Proof.Machine.execReadBuffer s
  | .endOfData => Sys2Proof.Machine.execEndOfData s
  | .isStereo => Sys2Proof.Machine.execIsStereo s
  | .getRate => Sys2Proof.Machine.execGetRate s
  | .rewind => Sys2Proof.Machine.execRewind s
  | .release => Sys2Proof.Machine.execRelease s
  | .okiBody => Sys2Proof.Machine.execOkiBody s
  | .imaGenericBody => Sys2Proof.Machine.execImaGenericBody s
  | .dviBody => Sys2Proof.Machine.execDviBody s
  | .appleImaHeader => Sys2Proof.Machine.execAppleImaHeader s
  | .appleImaBody => Sys2Proof.Machine.execAppleImaBody s
  | .msimaMonoHeader => Sys2Proof.Machine.execMsimaMonoHeader s
  | .msimaMonoBody => Sys2Proof.Machine.execMsimaMonoBody s
  | .msimaStereoHeader => Sys2Proof.Machine.execMsimaStereoHeader s
  | .msimaStereoBody => Sys2Proof.Machine.execMsimaStereoBody s
  | .dk3Header => Sys2Proof.Machine.execDk3Header s
  | .dk3Body => Sys2Proof.Machine.execDk3Body s
  | .msAdpcmHeader => Sys2Proof.Machine.execMsAdpcmHeader s
  | .msAdpcmBody => Sys2Proof.Machine.execMsAdpcmBody s
  | .imaStep k code => Sys2Proof.Machine.execImaStep k code s
  | .okiStep k code => Sys2Proof.Machine.execOkiStep k code s
  | .msAdpcmStep k code => Sys2Proof.Machine.execMsAdpcmStep k code s

end Sys2Proof.Machine
end

