-- ==== Sys2Proof/Machine/Step.lean ====
section
/-! DEFINITION. One step: the block serves the oldest host request (log entry 1). -/

namespace Sys2Proof.Machine

/-- A write to CMD: the word is decoded and its command performed, or it is refused as illegal (R110, R111). -/
def runCommandWord (v : Word32) (s : State) : Host.Outcome State Fault Refusal :=
  match decodeCommand v with
  | .ok i => exec i s
  | .error _ => .next (illegalCommand s)

/-- The service of one request. -/
def serve (q : Request) (s : State) : Host.Outcome State Fault Refusal :=
  match commandWord q with
  | some v => runCommandWord v s
  | none => serveAccess q s

/-- One step. With no request waiting the block does nothing: "it acts only when the host writes CMD" (R262). -/
def step (s : State) : Host.Outcome State Fault Refusal :=
  match s.pending with
  | [] => .next s
  | q :: rest => serve q { s with pending := rest }

/-- The state in which the very next step runs the instruction whose bits are `w`, numbered as spec/opcode_table.json numbers
them (log entry 9). -/
def State.withFetchWord (s : State) (nbits w : Nat) : State :=
  match tableWord nbits w with
  | none => s
  | some e => placeEncoded e s

end Sys2Proof.Machine
end

