-- ==== Sys2Proof/Safety.lean ====
section
/-! DEFINITION. What claims speak of: safe steps and reachable states, the unit table of 30_encoding.md R96 as functions, the
frames, and the invariants of the block. -/

namespace Sys2Proof

/-- The instructions that are units, the rows of format DW. -/
def Instr.isUnit : Instr → Bool
  | .okiBody | .imaGenericBody | .dviBody | .appleImaHeader | .appleImaBody | .msimaMonoHeader | .msimaMonoBody => true
  | .msimaStereoHeader | .msimaStereoBody | .dk3Header | .dk3Body | .msAdpcmHeader | .msAdpcmBody => true
  | .configure | .readBuffer | .endOfData | .isStereo | .getRate | .rewind | .release => false
  | .imaStep _ _ | .okiStep _ _ | .msAdpcmStep _ _ => false

/-- The instructions that are host commands, the rows of format CMD. -/
def Instr.isCommand : Instr → Bool
  | .configure | .readBuffer | .endOfData | .isStereo | .getRate | .rewind | .release => true
  | .okiBody | .imaGenericBody | .dviBody | .appleImaHeader | .appleImaBody | .msimaMonoHeader | .msimaMonoBody => false
  | .msimaStereoHeader | .msimaStereoBody | .dk3Header | .dk3Body | .msAdpcmHeader | .msAdpcmBody => false
  | .imaStep _ _ | .okiStep _ _ | .msAdpcmStep _ _ => false

end Sys2Proof

namespace Sys2Proof.Machine

/-! ### Runs -/

/-- A step that goes on: neither a fault nor a refusal. -/
def SafeStep (s : State) : Prop := ∃ t, step s = .next t

/-- The states a run passes through from `s`. -/
inductive Reaches (s : State) : State → Prop where
  | start : Reaches s s
  | next {t u : State} (h : Reaches s t) (hs : step t = .next u) : Reaches s u

/-! ### The unit table (R96) -/

/-- How many bytes a DK3 body unit reads: under SDS two when TOPNIB = 0 and one otherwise, under SD one (R96). -/
def dk3UnitBytes (s : State) : Nat :=
  match s.cfg.dk3Schedule with
  | .sds => if s.dec.topNib then 1 else 2
  | .sd => 1

/-- Column "offsets read", relative to CURSOR. -/
def unitOffsets (i : Instr) (s : State) : List Nat :=
  match i with
  | .okiBody | .imaGenericBody | .dviBody | .msimaMonoBody | .msAdpcmBody => [0]
  | .appleImaHeader =>
    if s.isStereo then [0, 1, s.conf.blockAlign.toNat, s.conf.blockAlign.toNat + 1] else [0, 1]
  | .appleImaBody => if s.isStereo then [0, s.conf.blockAlign.toNat] else [0]
  | .msimaMonoHeader => List.range 4
  | .msimaStereoHeader | .msimaStereoBody => List.range 8
  | .dk3Header => List.range 16
  | .dk3Body => List.range (dk3UnitBytes s)
  | .msAdpcmHeader => List.range (7 * s.unitChannels)
  | .configure | .readBuffer | .endOfData | .isStereo | .getRate | .rewind | .release => []
  | .imaStep _ _ | .okiStep _ _ | .msAdpcmStep _ _ => []

/-- Column "CURSOR +=". -/
def unitAdvance (i : Instr) (s : State) : Nat :=
  match i with
  | .okiBody | .imaGenericBody | .dviBody | .msimaMonoBody | .msAdpcmBody => 1
  | .appleImaHeader => 2
  | .appleImaBody => if s.isStereo && decide (s.dec.blockRem - 1#32 = 0#32) then 1 + s.conf.blockAlign.toNat else 1
  | .msimaMonoHeader => 4
  | .msimaStereoHeader | .msimaStereoBody => 8
  | .dk3Header => 16
  | .dk3Body => dk3UnitBytes s
  | .msAdpcmHeader => 7 * s.unitChannels
  | .configure | .readBuffer | .endOfData | .isStereo | .getRate | .rewind | .release => 0
  | .imaStep _ _ | .okiStep _ _ | .msAdpcmStep _ _ => 0

/-- Column "BLOCKREM after"; the variants without blocks leave it alone. -/
def unitBlockRem (i : Instr) (s : State) : Word32 :=
  match i with
  | .okiBody | .imaGenericBody | .dviBody => s.dec.blockRem
  | .appleImaHeader => s.conf.blockAlign - 2#32
  | .appleImaBody | .msimaMonoBody | .msAdpcmBody => s.dec.blockRem - 1#32
  | .msimaMonoHeader => s.conf.blockAlign - 4#32
  | .msimaStereoHeader => s.conf.blockAlign - 8#32
  | .msimaStereoBody => s.dec.blockRem - 8#32
  | .dk3Header => s.conf.blockAlign - 16#32
  | .dk3Body => s.dec.blockRem - BitVec.ofNat 32 (dk3UnitBytes s)
  | .msAdpcmHeader => s.conf.blockAlign - BitVec.ofNat 32 (7 * s.unitChannels)
  | .configure | .readBuffer | .endOfData | .isStereo | .getRate | .rewind | .release => s.dec.blockRem
  | .imaStep _ _ | .okiStep _ _ | .msAdpcmStep _ _ => s.dec.blockRem

/-- Column "samples". -/
def unitSamples (i : Instr) (s : State) : Nat :=
  match i with
  | .okiBody | .imaGenericBody | .dviBody | .msimaMonoBody | .msAdpcmBody => 2
  | .appleImaHeader | .dk3Header => 0
  | .appleImaBody => 2 * s.unitChannels
  | .msimaMonoHeader => if s.cfg.msimaEmitHeaderSample then 1 else 0
  | .msimaStereoHeader => if s.cfg.msimaEmitHeaderSample then 2 else 0
  | .msimaStereoBody => 16
  | .dk3Body =>
    match s.cfg.dk3Schedule with
    | .sds => 4
    | .sd => 2
  | .msAdpcmHeader => 2 * s.unitChannels
  | .configure | .readBuffer | .endOfData | .isStereo | .getRate | .rewind | .release => 0
  | .imaStep _ _ | .okiStep _ _ | .msAdpcmStep _ _ => 0

/-! ### Frames -/

/-- A unit or a nibble primitive leaves alone everything but the decoder, CURSOR and FAULTREG, and the draw counter where the
source was changed under the decoder (log entry 25). -/
def EngineFrame (s t : State) : Prop :=
  t = { s with dec := t.dec, cursor := t.cursor, faultReg := t.faultReg, draws := t.draws } ∧
    (s.srcChanged = false → t.draws = s.draws)

/-- READ_BUFFER leaves alone everything but the decoder, CURSOR, FAULTREG, RESULT, STATUS and the sample port with its buffer, and
the draw counter where the source was changed under the decoder (log entry 25). -/
def ReadFrame (s t : State) : Prop :=
  t = { s with
    dec := t.dec, cursor := t.cursor, faultReg := t.faultReg, result := t.result, status := t.status
    samplePort := t.samplePort, hostBuf := t.hostBuf, draws := t.draws } ∧
    (s.srcChanged = false → t.draws = s.draws)

/-- What no instruction changes: the argument registers (R37), the parameters and tables (R140), the source (R62), the host's
requests and its last read. -/
def SurroundingsKept (s t : State) : Prop :=
  t.args = s.args ∧ t.cfg = s.cfg ∧ t.src = s.src ∧ t.srcLen = s.srcLen ∧ t.srcChanged = s.srcChanged ∧
    t.pending = s.pending ∧ t.readData = s.readData

/-! ### Invariants -/

/-- The source is in its canonical form. -/
def SourceCanonical (s : State) : Prop := srcWf s.src s.srcLen.toNat = true

/-- PEND never holds more than PEND_DEPTH = 16 samples (R27, R97). -/
def PendWithinDepth (s : State) : Prop := s.dec.pend.length ≤ 16

/-- While configured, CURSOR is at most max(START, LIMIT) (R30), as long as the host has kept its duty not to change L under the
decoder (R286). -/
def CursorBounded (s : State) : Prop :=
  s.srcChanged = false → s.life = .configured → s.cursor.toNat ≤ max s.conf.start.toNat s.limit

/-- The ranges of R23 and R24: INDEX in [0, 88] for the IMA family; PRED in [-2048, 2047] and INDEX in [0, OKI_INDEX_MAX] for OKI;
MODE below NCOEF for MS_ADPCM. -/
def ChannelInRange (c : Config) (v : Variant) (ch : Channel) : Prop :=
  match v.family with
  | .ima => ch.index.toNat ≤ 88
  | .oki => -2048 ≤ ch.pred.toInt ∧ ch.pred.toInt ≤ 2047 ∧ ch.index.toNat ≤ c.okiIndexMax.toNat
  | .msAdpcm => ch.mode.toNat < nCoef c

/-- Both channel records are in range for the active variant. -/
def ChannelsInRange (s : State) : Prop :=
  ChannelInRange s.cfg s.conf.variant s.dec.ch0 ∧ ChannelInRange s.cfg s.conf.variant s.dec.ch1

/-- What CONFIGURE lets through (R112, R113). -/
def ConfLegal (c : Config) (cf : ActiveConf) : Prop :=
  cf.channels ≠ .none ∧ channelsAllowed cf.variant cf.channels = true ∧
    (cf.invert = true → invertAllowed cf.variant = true) ∧
    (isBlocked cf.variant = true →
      cf.blockAlign ≠ 0#32 ∧ geometryOK c cf.variant cf.channels cf.blockAlign.toNat = true) ∧
    cf.start.toNat ≤ cf.endPos.toNat

/-- The active configuration is legal while configured; while unconfigured, it and the decoder are blank, CURSOR is 0 and
CURSOR_VALID is 0 (R34, R44, R119). -/
def LifecycleConsistent (s : State) : Prop :=
  match s.life with
  | .configured => ConfLegal s.cfg s.conf
  | .unconfigured =>
    s.conf = ActiveConf.zero ∧ s.dec = Decoder.zero ∧ s.cursor = 0#32 ∧ s.cursorValid = false

/-- The nibbles of the current block not yet decoded fill a whole number of body units (R113, R204, R215). -/
def BodyTiled (s : State) : Prop :=
  match s.conf.variant with
  | .msimaStereo => s.dec.blockRem.toNat % 8 = 0
  | .dk3 =>
    match s.cfg.dk3Schedule with
    | .sds => (2 * s.dec.blockRem.toNat + (if s.dec.topNib then 1 else 0)) % 3 = 0
    | .sd => s.dec.topNib = false
  | .oki | .imaGeneric | .dvi | .appleIma | .msimaMono | .msAdpcm => True

/-- The offset at which the next header will be read: past the rest of the block and, in AppleIMA stereo inside a chunk, past
channel 1's chunk too (R67, R193). -/
def nextHeaderAt (s : State) : Nat :=
  s.cursor.toNat + s.dec.blockRem.toNat +
    (if s.conf.variant = .appleIma ∧ s.conf.channels = .stereo ∧ s.dec.blockRem ≠ 0#32 then s.conf.blockAlign.toNat else 0)

/-- The stride from one header to the next: BA, or 2 * BA for AppleIMA stereo (R67). -/
def headerStride (s : State) : Nat :=
  if s.conf.variant = .appleIma ∧ s.conf.channels = .stereo then 2 * s.conf.blockAlign.toNat else s.conf.blockAlign.toNat

/-- Blocks and chunks lie on the grid START + k * stride (R65, R67), BLOCKREM counts what is left of the current one, and body
units tile it exactly (R113). -/
def BlocksOnGrid (s : State) : Prop :=
  s.life = .configured → isBlocked s.conf.variant = true →
    ConfLegal s.cfg s.conf ∧ s.dec.blockRem.toNat < s.conf.blockAlign.toNat ∧ BodyTiled s ∧
      (s.cursorValid = true →
        s.conf.start.toNat ≤ s.cursor.toNat ∧ (nextHeaderAt s - s.conf.start.toNat) % headerStride s = 0)

/-- FAULTREG holds 0 or one of the codes that are ever raised (R257). -/
def FaultCodeLegal (s : State) : Prop := s.faultReg = 0#4 ∨ s.faultReg = 1#4 ∨ s.faultReg = 2#4

/-- STATUS reads what R40 says of the current state; SHORT_READ and ERR are the last command's. Only EOD can lag behind, and only
where the host has changed L under the decoder (R286), since STATUS is rewritten at the end of a command (R128). -/
def StatusCurrent (s : State) : Prop :=
  ∃ (short eod : Bool) (err : Err),
    s.status = statusWord s.isConfigured eod (s.isConfigured && s.isStereo) short (s.isConfigured && s.cursorValid) s.isFaulted
        err.code ∧
      (s.srcChanged = false → eod = (s.isConfigured && s.cursorValid && s.endOfData))

end Sys2Proof.Machine
end

