-- ==== Sys2Proof/Certificates/Slice0/Obligations.lean ====
section
/-! DEFINITION. The statements for the provers. Each docstring names the rule of spec/ it formalises. -/

open Sys2Proof Sys2Proof.Machine

/-! ### Encodings -/

/-- R81, R83 with R96 and R99, R84, R85: an encoded word is read as an instruction exactly when it is that instruction's word. -/
def Obligations.DecodeAndEncodeAgree : Prop :=
  ∀ (e : Encoded) (i : Instr), decode e = .ok i ↔ encode i = e

/-- Words written out from the tables of R81, R83 and R84, R85, one or more for each family. -/
def Obligations.WordsOfTheTablesDecode : Prop :=
  decodeTableWord 32 0x00000001 = some .configure ∧
  decodeTableWord 32 0x00000006 = some .rewind ∧
  decodeTableWord 32 0x00000102 = none ∧
  decodeTableWord 8 0x00 = some .okiBody ∧
  decodeTableWord 8 0x20 = some .dviBody ∧
  decodeTableWord 8 0x21 = none ∧
  decodeTableWord 8 0x31 = some .appleImaHeader ∧
  decodeTableWord 8 0x40 = some .msimaMonoBody ∧
  decodeTableWord 8 0x61 = some .dk3Header ∧
  decodeTableWord 8 0x70 = some .msAdpcmBody ∧
  decodeTableWord 8 0x80 = none ∧
  decode (.code .oki .one 0b1011#4) = .ok (.okiStep .one 0b1011#4) ∧
  decode (.code .msAdpcm .zero 0b1000#4) = .ok (.msAdpcmStep .zero 0b1000#4)

/-- R122: the dispatch word is VARIANT << 4 | PHASE, and the word always names a unit of the active variant (R83, R99). -/
def Obligations.DispatchWordNamesTheDueUnit : Prop :=
  ∀ s : State,
    (s.conf.variant ∈ [.appleIma, .msimaMono, .msimaStereo, .dk3, .msAdpcm] ∧ s.dec.blockRem = 0#32 →
      s.dispatchWord.toNat = s.conf.variant.code * 16 + 1) ∧
    (¬(s.conf.variant ∈ [.appleIma, .msimaMono, .msimaStereo, .dk3, .msAdpcm] ∧ s.dec.blockRem = 0#32) →
      s.dispatchWord.toNat = s.conf.variant.code * 16) ∧
    ∃ i, decodeDispatch s.dispatchWord = .ok i ∧ i.isUnit = true ∧ i.formedUnder s.conf.variant = true

/-! ### The step -/

/-- R36, R110: the step at a write to CMD whose word decodes is exec of the decoded command, once the request is taken. -/
def Obligations.StepRunsTheDecodedCommand : Prop :=
  ∀ (s : State) (v : Word32) (rest : List Request) (i : Instr),
    s.pending = .write 0#4 v :: rest → decodeCommand v = .ok i → step s = exec i { s with pending := rest }

/-- R111: the pre-checks of every command word, in order; a refused command changes RESULT and STATUS only. -/
def Obligations.PreChecksInOrder : Prop :=
  ∀ (s : State) (v : Word32) (rest : List Request), s.pending = .write 0#4 v :: rest →
    let p : State := { s with pending := rest }
    let refused (e : Err) : State := { p with result := 0#32, status := p.statusNow false e }
    let illegal : Prop := v.toNat / 256 ≠ 0 ∨ v.toNat % 256 = 0 ∨ 8 ≤ v.toNat % 256
    (s.faultReg ≠ 0#4 → step s = .next (refused .cmdFaulted)) ∧
    (s.faultReg = 0#4 → illegal → step s = .next (refused .cmdIllegal)) ∧
    (s.faultReg = 0#4 → ¬illegal → v.toNat % 256 = 1 → s.life = .configured →
      step s = .next (refused .cmdAlreadyConfigured)) ∧
    (s.faultReg = 0#4 → ¬illegal → v.toNat % 256 ≠ 1 → s.life = .unconfigured →
      step s = .next (refused .cmdNotConfigured)) ∧
    (s.faultReg = 0#4 → ¬illegal → (v.toNat % 256 = 1 ↔ s.life = .unconfigured) →
      ∃ i, decodeCommand v = .ok i ∧ step s = exec i p)

/-- R37, R42: a write to an argument register changes that register only and reads back unchanged; a write to RESULT, STATUS,
FAULTREG or a reserved number has no effect. -/
def Obligations.RegisterWritesAreKept : Prop :=
  ∀ (s : State) (r : BitVec 4) (v : Word32) (rest : List Request), s.pending = .write r v :: rest → r ≠ 0#4 →
    ∃ t, step s = .next t ∧ t = { s with pending := rest, args := t.args } ∧
      ∀ r' : BitVec 4, readReg t r' = if r' = r ∧ r.toNat ≤ 8 then v else readReg s r'

/-- R35, R36, R39 to R42: what a host read of each register number returns, and that it changes nothing else. The field readData
that holds the answer is the model's own (log entry 7). -/
def Obligations.RegisterReadsHaveNoEffect : Prop :=
  ∀ (s : State) (r : BitVec 4) (rest : List Request), s.pending = .read r :: rest →
    ∃ w, step s = .next { s with pending := rest, readData := w } ∧
      (r = 0#4 → w = 0#32) ∧
      (1 ≤ r.toNat → r.toNat ≤ 8 →
        w = [s.args.variant, s.args.channels, s.args.rate, s.args.blockAlign, s.args.start, s.args.endPos,
          s.args.flags, s.args.max].getD (r.toNat - 1) 0#32) ∧
      (r = 9#4 → w = s.result) ∧ (r = 10#4 → w = s.status) ∧
      (r = 11#4 → w.toNat = s.faultReg.toNat) ∧ (12 ≤ r.toNat → w = 0#32)

/-- R62, R286 and the model's source request (log entries 2 and 25): in every lifecycle state a source that can be described becomes
SRC and L, reads back byte for byte, and nothing else changes but the record that the host has broken its duty, which is made when
SRC or L changes while a decoder is configured and never unmade; a longer one is refused. -/
def Obligations.PresentedSourceReadsBack : Prop :=
  ∀ (s : State) (bytes : List Byte) (rest : List Request), s.pending = .source bytes :: rest →
    (2 ^ 32 ≤ bytes.length → step s = .refused .sourceTooLong) ∧
    (bytes.length < 2 ^ 32 →
      ∃ t, step s = .next t ∧
        t = { s with pending := rest, src := t.src, srcLen := t.srcLen, srcChanged := t.srcChanged } ∧
        t.srcLen.toNat = bytes.length ∧ (∀ (a : Nat) (h : a < bytes.length), srcByte t.src a = bytes[a]) ∧
        (t.srcChanged = true ↔
          s.srcChanged = true ∨ (s.life = .configured ∧ (t.src ≠ s.src ∨ t.srcLen ≠ s.srcLen))))

/-! ### CONFIGURE -/

/-- R112: CONFIGURE with legal arguments latches them, sets the cursor to START, performs reset() and reports 1. -/
def Obligations.ConfigureLatchesTheArguments : Prop :=
  ∀ (s : State) (v : Variant) (n : ChannelCount),
    s.faultReg = 0#4 → s.life = .unconfigured →
    s.args.flags.toNat < 4 → s.args.variant.toNat = v.code → s.args.channels.toNat = n.count → n ≠ .none →
    channelsAllowed v n = true → (s.args.flags.getLsbD 0 = true → v = .msimaMono ∨ v = .msimaStereo) →
    (v ∈ [.appleIma, .msimaMono, .msimaStereo, .dk3, .msAdpcm] →
      s.args.blockAlign ≠ 0#32 ∧ geometryOK s.cfg v n s.args.blockAlign.toNat = true) →
    s.args.start.toNat ≤ s.args.endPos.toNat →
    let u : State := { s with
      life := .configured
      conf := { variant := v, channels := n, rate := s.args.rate, blockAlign := s.args.blockAlign, start := s.args.start
                endPos := s.args.endPos, invert := s.args.flags.getLsbD 0, dispose := s.args.flags.getLsbD 1 }
      cursor := s.args.start
      cursorValid := true
      dec := Decoder.zero }
    exec .configure s = .next { u with result := 1#32, status := u.statusNow false .none }

/-- R112, R251, R258: a CONFIGURE that fails a check reports the first failing one in the order of R258, and changes nothing but
RESULT and STATUS. -/
def Obligations.ConfigureReportsTheFirstFailure : Prop :=
  ∀ s : State, s.faultReg = 0#4 → s.life = .unconfigured →
    let a := s.args
    let err : Option Err :=
      if 4 ≤ a.flags.toNat then some .cfgReservedFlags
      else match Variant.ofCode a.variant.toNat with
        | none => some .cfgBadVariant
        | some v =>
          if a.channels.toNat ≠ 1 ∧ a.channels.toNat ≠ 2 then some .cfgBadChannels
          else if (v = .dk3 ∧ a.channels.toNat ≠ 2) ∨ (v = .msimaMono ∧ a.channels.toNat ≠ 1) ∨
              (v = .msimaStereo ∧ a.channels.toNat ≠ 2) then some .cfgVariantChannels
          else if a.flags.getLsbD 0 = true ∧ v ≠ .msimaMono ∧ v ≠ .msimaStereo then some .cfgReservedFlags
          else if isBlocked v = true ∧ a.blockAlign.toNat = 0 then some .cfgZeroBlockAlign
          else if isBlocked v = true ∧
              geometryOK s.cfg v (if a.channels.toNat = 2 then .stereo else .mono) a.blockAlign.toNat = false then
            some .cfgBadGeometry
          else if a.endPos.toNat < a.start.toNat then some .cfgBadRange
          else none
    ∀ e, err = some e → exec .configure s = .next { s with result := 0#32, status := s.statusNow false e }

/-- R113: geometryOK of each blocked variant. -/
def Obligations.GeometryOfEachVariant : Prop :=
  ∀ (c : Config) (n : ChannelCount) (ba : Nat),
    (geometryOK c .appleIma n ba = true ↔ 3 ≤ ba) ∧
    (geometryOK c .msimaMono n ba = true ↔ 5 ≤ ba) ∧
    (geometryOK c .msimaStereo n ba = true ↔ 16 ≤ ba ∧ (ba - 8) % 8 = 0) ∧
    (c.dk3Schedule = .sds → (geometryOK c .dk3 n ba = true ↔ 17 ≤ ba ∧ 2 * (ba - 16) % 3 = 0)) ∧
    (c.dk3Schedule = .sd → (geometryOK c .dk3 n ba = true ↔ 17 ≤ ba ∧ 2 * (ba - 16) % 2 = 0)) ∧
    (geometryOK c .msAdpcm n ba = true ↔ 7 * n.count + 1 ≤ ba)

/-! ### READ_BUFFER and its loop -/

/-- R114, R75, R252, R256: READ_BUFFER with a usable argument and a defined position delivers what ReadLoop collects, at most
maxSamples; RESULT is the count; a short count is reported as TRUNCATED and leaves end of data; a fault on the way is reported as
FAULT and is DELTA_OVERFLOW in an MS_ADPCM stream; nothing outside the decoder, CURSOR, FAULTREG, RESULT, STATUS and the port (log entry 6)
changes, but the draw counter where the source was changed under the decoder (log entry 25). -/
def Obligations.ReadBufferDeliversAndReports : Prop :=
  ∀ s : State, s.faultReg = 0#4 → s.life = .configured → s.cursorValid = true → s.args.max.toNat < 2 ^ 31 →
    (s.cfg.strictGranule = true → s.args.max.toNat % granule s = 0) →
    ∃ t, exec .readBuffer s = .next t ∧ ReadFrame s t ∧
      let n := s.args.max.toNat
      let r := readSamples n s
      t.dec = r.2.dec ∧ t.cursor = r.2.cursor ∧ t.faultReg = r.2.faultReg ∧ t.draws = r.2.draws ∧
      r.1.length ≤ n ∧ t.result.toNat = r.1.length ∧
      t.samplePort = s.samplePort ++ r.1 ∧ t.hostBuf = r.1 ++ s.hostBuf.drop r.1.length ∧
      (t.faultReg = 0#4 →
        t.status = t.statusNow (decide (r.1.length < n)) (if r.1.length < n then .truncated else .none) ∧
          (r.1.length < n → t.endOfData = true)) ∧
      (t.faultReg ≠ 0#4 → t.faultReg = 2#4 ∧ s.conf.variant = .msAdpcm ∧ t.status = t.statusNow false .fault)

/-- R114, R127, R257, R259: where READ_BUFFER is refused or faults before it reads: A_MAX[31] = 1; the undefined position, even for
maxSamples = 0; a maxSamples that STRICT_GRANULE turns away. -/
def Obligations.ReadBufferTurnedAway : Prop :=
  ∀ s : State, s.faultReg = 0#4 → s.life = .configured →
    let n := s.args.max.toNat
    let g := if s.conf.variant = .dk3 ∧ s.cfg.dk3Schedule = .sds then 4 else s.conf.channels.count
    let f : State := { s with faultReg := 1#4 }
    (2 ^ 31 ≤ n → exec .readBuffer s = .next { s with result := 0#32, status := s.statusNow false .cmdBadArg }) ∧
    (n < 2 ^ 31 → s.cursorValid = false →
      exec .readBuffer s = .next { f with result := 0#32, status := f.statusNow false .fault }) ∧
    (n < 2 ^ 31 → s.cursorValid = true → s.cfg.strictGranule = true → n % g ≠ 0 →
      exec .readBuffer s = .next { s with result := 0#32, status := s.statusNow false .cmdBadArg })

/-- R121: the turns of ReadLoop: it ends at maxSamples; it pops PEND; it ends at the end of data or a fault; otherwise it performs
exec of the unit that the dispatch word decodes to. -/
def Obligations.ReadLoopTurns : Prop :=
  ∀ (fuel n : Nat) (out : List Sample) (s : State),
    (n ≤ out.length → readLoop (fuel + 1) n out s = (out, s)) ∧
    (∀ x rest, out.length < n → s.dec.pend = x :: rest →
      readLoop (fuel + 1) n out s = readLoop fuel n (out ++ [x]) { s with dec := { s.dec with pend := rest } }) ∧
    (out.length < n → s.dec.pend = [] →
      s.faultReg ≠ 0#4 ∨ s.dec.eodLatch = true ∨ min s.conf.endPos.toNat s.srcLen.toNat ≤ s.cursor.toNat →
      readLoop (fuel + 1) n out s = (out, s)) ∧
    (∀ i t, out.length < n → s.dec.pend = [] → s.faultReg = 0#4 → s.dec.eodLatch = false →
      s.cursor.toNat < min s.conf.endPos.toNat s.srcLen.toNat → decodeDispatch s.dispatchWord = .ok i → exec i s = .next t →
      readLoop (fuel + 1) n out s = readLoop fuel n out t)

/-- R125: ReadLoop terminates within the model's bound on its turns: more turns change nothing (log entry 14). -/
def Obligations.ReadLoopTerminates : Prop :=
  ∀ (n k : Nat) (s : State), readLoop (readFuel n s + k) n [] s = readSamples n s

/-- R124: once endOfData() is true, READ_BUFFER returns 0 samples and changes no state but RESULT and STATUS. -/
def Obligations.ReadAfterTheEndReturnsNothing : Prop :=
  ∀ s : State, s.faultReg = 0#4 → s.life = .configured → s.cursorValid = true → s.args.max.toNat < 2 ^ 31 →
    s.cfg.strictGranule = false → s.dec.pend = [] →
    s.dec.eodLatch = true ∨ min s.conf.endPos.toNat s.srcLen.toNat ≤ s.cursor.toNat →
    exec .readBuffer s = .next { s with
      result := 0#32
      status := s.statusNow (decide (0 < s.args.max.toNat)) (if 0 < s.args.max.toNat then .truncated else .none) }

/-- R126, chunking independence: reading `a` samples and then `b` delivers what reading `a + b` delivers, and leaves the same
decoder, cursor, fault register and count of draws, if the first read raised no fault. The port is the model's record (log entry 6),
the count of draws too (log entry 5). -/
def Obligations.ChunkingDoesNotMatter : Prop :=
  ∀ (s t₁ t₂ t₃ : State) (a b : Nat),
    s.faultReg = 0#4 → s.life = .configured → s.cursorValid = true → s.cfg.strictGranule = false → a + b < 2 ^ 31 →
    exec .readBuffer { s with args := { s.args with max := BitVec.ofNat 32 a } } = .next t₁ → t₁.faultReg = 0#4 →
    exec .readBuffer { t₁ with args := { t₁.args with max := BitVec.ofNat 32 b } } = .next t₂ →
    exec .readBuffer { s with args := { s.args with max := BitVec.ofNat 32 (a + b) } } = .next t₃ →
    t₃.samplePort = t₂.samplePort ∧ t₃.dec = t₂.dec ∧ t₃.cursor = t₂.cursor ∧ t₃.faultReg = t₂.faultReg ∧ t₃.draws = t₂.draws

/-! ### The other commands -/

/-- R115, R124: END_OF_DATA answers endOfData(); at an undefined position it answers a draw, and STATUS.EOD reads 0 (R40). -/
def Obligations.EndOfDataAnswers : Prop :=
  ∀ s : State, s.faultReg = 0#4 → s.life = .configured →
    (s.cursorValid = true →
      exec .endOfData s = .next { s with
        result :=
          if s.dec.pend = [] ∧
              (s.dec.eodLatch = true ∨ min s.conf.endPos.toNat s.srcLen.toNat ≤ s.cursor.toNat) then 1#32 else 0#32
        status := s.statusNow false .none }) ∧
    (s.cursorValid = false →
      exec .endOfData s = .next { s with
        draws := s.draws + 1
        result := if Config.eodDraw s.draws = true then 1#32 else 0#32
        status := s.statusNow false .none } ∧
      (s.statusNow false .none).getLsbD 1 = false)

/-- R116: IS_STEREO answers 1 exactly when CHANNELS = 2, with ERR NONE. -/
def Obligations.IsStereoAnswersTheChannelCount : Prop :=
  ∀ s : State, s.faultReg = 0#4 → s.life = .configured →
    exec .isStereo s = .next { s with
      result := if s.conf.channels.count = 2 then 1#32 else 0#32, status := s.statusNow false .none }

/-- R117: GET_RATE answers RATE, with ERR NONE. -/
def Obligations.GetRateAnswersTheRate : Prop :=
  ∀ s : State, s.faultReg = 0#4 → s.life = .configured →
    exec .getRate s = .next { s with result := s.conf.rate, status := s.statusNow false .none }

/-- R118: REWIND performs reset(); with the seek's draw true the cursor is START and valid, and RESULT is 1; with it false the
position is undefined, RESULT is 0 and ERR is SEEK_FAILED. It holds whatever the draw is (log entry 5). -/
def Obligations.RewindResetsAndSeeks : Prop :=
  ∀ s : State, s.faultReg = 0#4 → s.life = .configured →
    let ok : State := { s with
      draws := s.draws + 1, dec := Decoder.zero, cursor := s.conf.start, cursorValid := true }
    let failed : State := { s with draws := s.draws + 1, dec := Decoder.zero, cursorValid := false }
    exec .rewind s = .next
      (if Config.seekOk s.draws = true then { ok with result := 1#32, status := ok.statusNow false .none }
       else { failed with result := 0#32, status := failed.statusNow false .seekFailed })

/-- R119, R120: RELEASE zeroes the configuration, performs reset(), and leaves the block unconfigured with RESULT 1. -/
def Obligations.ReleaseBlanksTheBlock : Prop :=
  ∀ s : State, s.faultReg = 0#4 → s.life = .configured →
    let u : State := { s with
      life := .unconfigured, conf := ActiveConf.zero, dec := Decoder.zero, cursor := 0#32, cursorValid := false }
    exec .release s = .next { u with result := 1#32, status := u.statusNow false .none }

/-- R282: a REWIND whose seek succeeds leaves the decoder, CURSOR and CURSOR_VALID as CONFIGURE left them. -/
def Obligations.RewindRestoresTheConfiguredState : Prop :=
  ∀ s c t : State, s.faultReg = 0#4 → exec .configure s = .next c → c.result = 1#32 → s.life = .unconfigured → t.conf = c.conf →
    (rewindWith true t).dec = c.dec ∧ (rewindWith true t).cursor = c.cursor ∧
      (rewindWith true t).cursorValid = c.cursorValid

/-- R282, replay determinism: after a REWIND whose seek succeeds, a READ_BUFFER depends on the configuration, the parameters, the
source and its argument only, not on what was decoded before, as long as the host keeps its duty not to change the source (R286).
The port is the model's record (log entry 6). -/
def Obligations.ReplayAfterRewindIsDeterministic : Prop :=
  ∀ s t s' t' : State, s.faultReg = 0#4 → t.faultReg = 0#4 → s.life = .configured → t.life = .configured →
    s.srcChanged = false → t.srcChanged = false →
    s.conf = t.conf → s.cfg = t.cfg → s.src = t.src → s.srcLen = t.srcLen → s.args.max = t.args.max →
    exec .readBuffer (rewindWith true s) = .next s' → exec .readBuffer (rewindWith true t) = .next t' →
    s'.dec = t'.dec ∧ s'.cursor = t'.cursor ∧ s'.faultReg = t'.faultReg ∧ s'.result = t'.result ∧ s'.status = t'.status ∧
      ∃ out, s'.samplePort = s.samplePort ++ out ∧ t'.samplePort = t.samplePort ++ out

/-! ### The nibble primitives -/

/-- R170, R171: IMA_STEP on CH[k] completes; PRED and INDEX are as the rule computes them under each IMA_DIFF, and nothing else
of the state changes. -/
def Obligations.ImaStepComputes : Prop :=
  ∀ (s : State) (k : Chan) (c : Code),
    let ch := s.ch k
    let step := imaStepEntry s.cfg ch.index.toNat
    let m := c.toNat % 8
    let d : Int :=
      match s.cfg.imaDiff with
      | .doc => ((step * m + step / 2) / 8 : Nat)
      | .mul8 => ((2 * m + 1) * step / 8 : Nat)
      | .shiftAdd =>
        (step / 8 + (if c.getLsbD 2 = true then step else 0) + (if c.getLsbD 1 = true then step / 2 else 0) +
          (if c.getLsbD 0 = true then step / 4 else 0) : Nat)
    let signed : Int := if c.getLsbD 3 = true then -d else d
    ∃ ch' : Channel, exec (.imaStep k c) s = .next (s.setCh k ch') ∧
      ch' = { ch with pred := ch'.pred, index := ch'.index } ∧
      ch'.pred.toInt = min (max (ch.pred.toInt + signed) (-32768)) 32767 ∧
      (ch'.index.toNat : Int) = min (max (ch.index.toNat + stepAdjustEntry s.cfg c) 0) 88

/-- R172: from any channel with INDEX in [0, 88], every sequence of IMA codes keeps INDEX in [0, 88] and PRED in
[-32768, 32767] after every step. -/
def Obligations.ImaCodesKeepTheRanges : Prop :=
  ∀ (c : Config) (codes : List Code) (ch : Channel), ch.index.toNat ≤ 88 →
    let last := codes.foldl (fun x code => imaStepChannel c code x) ch
    last.index.toNat ≤ 88 ∧ -32768 ≤ last.pred.toInt ∧ last.pred.toInt ≤ 32767

/-- R160: OKI_STEP on CH[k] completes; PRED is clamped to 12 bits and INDEX to OKI_INDEX_MAX, and nothing else changes. -/
def Obligations.OkiStepComputes : Prop :=
  ∀ (s : State) (k : Chan) (c : Code),
    let ch := s.ch k
    let d : Int := okiDiffEntry s.cfg ch.index.toNat (c.toNat % 8)
    let signed : Int := if c.getLsbD 3 = true then -d else d
    ∃ ch' : Channel, exec (.okiStep k c) s = .next (s.setCh k ch') ∧
      ch' = { ch with pred := ch'.pred, index := ch'.index } ∧
      ch'.pred.toInt = min (max (ch.pred.toInt + signed) (-2048)) 2047 ∧
      (ch'.index.toNat : Int) = min (max (ch.index.toNat + stepAdjustEntry s.cfg c) 0) s.cfg.okiIndexMax.toNat

/-- R163: the widened sample of a 12-bit predictor is sixteen times it under SHL4 and the predictor itself under SEXT. -/
def Obligations.OkiSamplesAreWidened : Prop :=
  ∀ p : Word16, -2048 ≤ p.toInt → p.toInt ≤ 2047 →
    (okiWiden .shl4 p).toInt = p.toInt * 16 ∧ (okiWiden .sext p).toInt = p.toInt

/-- R230, R231: MSADPCM_STEP on CH[k], where the new delta fits int32: the prediction under each MSADPCM_HISTORY and
MSADPCM_PRED_DIV, the clamped output with the old delta, the history shift, the new delta; nothing else changes. -/
def Obligations.MsAdpcmStepComputes : Prop :=
  ∀ (s : State) (k : Chan) (c : Code),
    let ch := s.ch k
    let n := c.toInt
    let sum : Int :=
      match s.cfg.history with
      | .doc => ch.s1.toInt * ch.coef1.toInt + ch.s2.toInt * ch.coef2.toInt
      | .newestCoeff1 => ch.s2.toInt * ch.coef1.toInt + ch.s1.toInt * ch.coef2.toInt
    let p : Int :=
      match s.cfg.predDiv with
      | .floor => sum.fdiv 256
      | .trunc => sum.tdiv 256
    let nd : Int := max ((ch.delta.toInt * adaptEntry s.cfg n.natAbs).fdiv 256) s.cfg.minDelta.toInt
    nd ≤ 2 ^ 31 - 1 →
    ∃ ch' : Channel, exec (.msAdpcmStep k c) s = .next (s.setCh k ch') ∧
      ch' = { ch with s1 := ch.s2, s2 := ch'.s2, delta := ch'.delta } ∧
      ch'.s2.toInt = min (max (p + n * ch.delta.toInt) (-32768)) 32767 ∧ ch'.delta.toInt = nd

/-- R232: where the new delta exceeds 2^31 - 1, MSADPCM_STEP raises DELTA_OVERFLOW and writes nothing else. -/
def Obligations.MsAdpcmStepOverflows : Prop :=
  ∀ (s : State) (k : Chan) (c : Code),
    2 ^ 31 - 1 < max (((s.ch k).delta.toInt * adaptEntry s.cfg c.toInt.natAbs).fdiv 256) s.cfg.minDelta.toInt →
    exec (.msAdpcmStep k c) s = .next { s with faultReg := 2#4 }

/-! ### The units -/

/-- R123: a unit with a byte at or above LIMIT reads nothing, changes no channel, tracker or cursor, and sets EODLATCH. -/
def Obligations.CutOffUnitOnlyLatchesTheEnd : Prop :=
  ∀ (i : Instr) (s : State), i.isUnit = true →
    (∃ o ∈ unitOffsets i s, min s.conf.endPos.toNat s.srcLen.toNat ≤ s.cursor.toNat + o) →
    exec i s = .next { s with dec := { s.dec with eodLatch := true } }

/-- R96, the unit table: a unit whose bytes are all below LIMIT moves CURSOR on, sets BLOCKREM and pushes samples as its row says,
unless it is the MS_ADPCM body and overflows (R232). It holds after a change of the source too (R286; log entry 25). -/
def Obligations.UnitsFollowTheUnitTable : Prop :=
  ∀ (i : Instr) (s : State), i.isUnit = true → s.faultReg = 0#4 →
    (∀ o ∈ unitOffsets i s, s.cursor.toNat + o < min s.conf.endPos.toNat s.srcLen.toNat) →
    ∃ t, exec i s = .next t ∧
      ((t.faultReg = 0#4 ∧ t.cursor.toNat = s.cursor.toNat + unitAdvance i s ∧ t.dec.blockRem = unitBlockRem i s ∧
          (∃ xs, t.dec.pend = s.dec.pend ++ xs ∧ xs.length = unitSamples i s)) ∨
        (i = .msAdpcmBody ∧ t = { s with faultReg := 2#4, draws := t.draws }))

/-- R121, R123: a unit changes only the decoder and CURSOR, and FAULTREG when it overflows; a unit that is performed leaves EODLATCH
alone, and TOPNIB and LASTBYTE change in DK3 units only. The draw counter moves only where the source was changed under the decoder
(log entry 25). -/
def Obligations.UnitsLeaveTheRestAlone : Prop :=
  ∀ (i : Instr) (s t : State), i.isUnit = true → exec i s = .next t →
    EngineFrame s t ∧ (t.faultReg = s.faultReg ∨ (i = .msAdpcmBody ∧ t = { s with faultReg := 2#4, draws := t.draws })) ∧
      (i ≠ .dk3Header → i ≠ .dk3Body → t.dec.topNib = s.dec.topNib ∧ t.dec.lastByte = s.dec.lastByte) ∧
      ((∀ o ∈ unitOffsets i s, s.cursor.toNat + o < min s.conf.endPos.toNat s.srcLen.toNat) →
        t.dec.eodLatch = s.dec.eodLatch)

/-- R286 with U7 of 93_implementation_defined.md, in the model's form (log entry 25): once the host has changed the source under a
configured decoder, a unit whose bytes are all below LIMIT does with a free byte at each of its offsets what it does with source
bytes, except that every sample it pushes is a free value. It holds whatever the free values are. The statements of single units
below are about a block whose host has kept its duty; this one carries each of them over to one whose host has not. -/
def Obligations.UnitsOfAChangedSourceAreUnpredictable : Prop :=
  ∀ (i : Instr) (s : State), i.isUnit = true → s.srcChanged = true →
    (∀ o ∈ unitOffsets i s, s.cursor.toNat + o < min s.conf.endPos.toNat s.srcLen.toNat) →
    let free : State := { s with
      srcChanged := false
      src := ((unitOffsets i s).map fun o => (s.cursor.toNat + o, Config.freeByte s.draws o)) ++ s.src }
    ∃ u, exec i free = .next u ∧
      exec i s = .next { s with
        cursor := u.cursor
        faultReg := u.faultReg
        draws := s.draws + 1
        dec := { u.dec with
          pend := s.dec.pend ++
            (List.range (u.dec.pend.length - s.dec.pend.length)).map (Config.freeSample s.draws) } }

/-- R161, R162: OKI_BODY: both codes on CH[0] in one chain, or, in stereo with OKI_STEREO = PER_CHANNEL, one on each channel.
Where the nibble order is not the default one, which code goes to which channel is read by inference (log entry 13). -/
def Obligations.OkiBodyDecodesOneByte : Prop :=
  ∀ s : State, s.srcChanged = false → s.cursor.toNat < min s.conf.endPos.toNat s.srcLen.toNat →
    let b := srcByte s.src s.cursor.toNat
    let o := s.cfg.nibbleOrder.oki
    let w := okiWiden s.cfg.okiWiden
    let c0 := okiStepChannel s.cfg (firstCode o b) s.dec.ch0
    let chain := okiStepChannel s.cfg (secondCode o b) c0
    let c1 := okiStepChannel s.cfg (secondCode o b) s.dec.ch1
    let cur := BitVec.ofNat 32 (s.cursor.toNat + 1)
    (s.conf.channels = .stereo ∧ s.cfg.okiStereo = .perChannel →
      exec .okiBody s = .next { s with
        cursor := cur
        dec := { s.dec with ch0 := c0, ch1 := c1, pend := s.dec.pend ++ [w c0.pred, w c1.pred] } }) ∧
    (¬(s.conf.channels = .stereo ∧ s.cfg.okiStereo = .perChannel) →
      exec .okiBody s = .next { s with
        cursor := cur
        dec := { s.dec with ch0 := chain, pend := s.dec.pend ++ [w c0.pred, w chain.pred] } })

/-- R173, R175: DVI_BODY and IMA_GENERIC_BODY decode a byte's two codes, both on CH[0] in mono, one on each channel in stereo.
Where the nibble order is not the default one, which code goes to which channel is read by inference (log entry 13). -/
def Obligations.StreamBodiesDecodeOneByte : Prop :=
  ∀ (s : State) (i : Instr) (o : NibbleOrder),
    (i = .dviBody ∧ o = s.cfg.nibbleOrder.dvi) ∨ (i = .imaGenericBody ∧ o = s.cfg.nibbleOrder.imaGeneric) →
    s.srcChanged = false → s.cursor.toNat < min s.conf.endPos.toNat s.srcLen.toNat →
    let b := srcByte s.src s.cursor.toNat
    let c0 := imaStepChannel s.cfg (firstCode o b) s.dec.ch0
    let chain := imaStepChannel s.cfg (secondCode o b) c0
    let c1 := imaStepChannel s.cfg (secondCode o b) s.dec.ch1
    let cur := BitVec.ofNat 32 (s.cursor.toNat + 1)
    (s.conf.channels = .mono →
      exec i s = .next { s with
        cursor := cur, dec := { s.dec with ch0 := chain, pend := s.dec.pend ++ [c0.pred, chain.pred] } }) ∧
    (s.conf.channels = .stereo →
      exec i s = .next { s with
        cursor := cur, dec := { s.dec with ch0 := c0, ch1 := c1, pend := s.dec.pend ++ [c0.pred, c1.pred] } })

/-- R190, R89: APPLE_IMA_HEADER loads PRED and INDEX of each configured channel from its preamble and emits nothing. -/
def Obligations.AppleHeaderLoadsThePreambles : Prop :=
  ∀ s : State, s.srcChanged = false →
    let at0 := s.cursor.toNat
    let at1 := s.cursor.toNat + s.conf.blockAlign.toNat
    let lim := min s.conf.endPos.toNat s.srcLen.toNat
    let v (a : Nat) : Nat :=
      match s.cfg.applePreambleOrder with
      | .le => (srcByte s.src a).toNat + 256 * (srcByte s.src (a + 1)).toNat
      | .be => 256 * (srcByte s.src a).toNat + (srcByte s.src (a + 1)).toNat
    let load (a : Nat) (ch : Channel) : Channel :=
      { ch with
        pred := BitVec.ofNat 16 (v a / 128 * 128)
        index := BitVec.ofNat 8 (min (v a % 128) 88) }
    (s.conf.channels = .mono → at0 + 1 < lim →
      exec .appleImaHeader s = .next { s with
        cursor := BitVec.ofNat 32 (at0 + 2)
        dec := { s.dec with ch0 := load at0 s.dec.ch0, blockRem := s.conf.blockAlign - 2#32 } }) ∧
    (s.conf.channels = .stereo → at0 + 1 < lim → at1 + 1 < lim →
      exec .appleImaHeader s = .next { s with
        cursor := BitVec.ofNat 32 (at0 + 2)
        dec := { s.dec with
          ch0 := load at0 s.dec.ch0, ch1 := load at1 s.dec.ch1, blockRem := s.conf.blockAlign - 2#32 } })

/-- R191, R192, R193: APPLE_IMA_BODY: in mono a byte's two codes; in stereo a byte of each chunk, two frames left then right, and
the skip past channel 1's chunk when the pair is done. What a nibble order other than the default does is read by inference (log
entry 13). -/
def Obligations.AppleBodyDecodesItsBytes : Prop :=
  ∀ s : State, s.srcChanged = false →
    let o := s.cfg.nibbleOrder.appleIma
    let lim := min s.conf.endPos.toNat s.srcLen.toNat
    let cur := s.cursor.toNat
    let ba := s.conf.blockAlign.toNat
    let b0 := srcByte s.src cur
    let b1 := srcByte s.src (cur + ba)
    let f0 := imaStepChannel s.cfg (firstCode o b0) s.dec.ch0
    let g0 := imaStepChannel s.cfg (secondCode o b0) f0
    let f1 := imaStepChannel s.cfg (firstCode o b1) s.dec.ch1
    let g1 := imaStepChannel s.cfg (secondCode o b1) f1
    let rem := s.dec.blockRem - 1#32
    (s.conf.channels = .mono → cur < lim →
      exec .appleImaBody s = .next { s with
        cursor := BitVec.ofNat 32 (cur + 1)
        dec := { s.dec with ch0 := g0, blockRem := rem, pend := s.dec.pend ++ [f0.pred, g0.pred] } }) ∧
    (s.conf.channels = .stereo → cur < lim → cur + ba < lim →
      exec .appleImaBody s = .next { s with
        cursor := BitVec.ofNat 32 (if rem = 0#32 then cur + 1 + ba else cur + 1)
        dec := { s.dec with
          ch0 := g0, ch1 := g1, blockRem := rem, pend := s.dec.pend ++ [f0.pred, f1.pred, g0.pred, g1.pred] } })

/-- R200, R90: the MSIMA headers load PRED and INDEX of each channel, and emit the predictors only under
MSIMA_EMIT_HEADER_SAMPLE. -/
def Obligations.MsimaHeadersLoadTheChannels : Prop :=
  ∀ s : State, s.srcChanged = false →
    let cur := s.cursor.toNat
    let lim := min s.conf.endPos.toNat s.srcLen.toNat
    let load (a : Nat) (ch : Channel) : Channel :=
      { ch with
        pred := BitVec.ofNat 16 ((srcByte s.src a).toNat + 256 * (srcByte s.src (a + 1)).toNat)
        index := BitVec.ofNat 8 (min (srcByte s.src (a + 2)).toNat 88) }
    let c0 := load cur s.dec.ch0
    let c1 := load (cur + 4) s.dec.ch1
    (cur + 3 < lim →
      exec .msimaMonoHeader s = .next { s with
        cursor := BitVec.ofNat 32 (cur + 4)
        dec := { s.dec with
          ch0 := c0, blockRem := s.conf.blockAlign - 4#32
          pend := s.dec.pend ++ if s.cfg.msimaEmitHeaderSample then [c0.pred] else [] } }) ∧
    (cur + 7 < lim →
      exec .msimaStereoHeader s = .next { s with
        cursor := BitVec.ofNat 32 (cur + 8)
        dec := { s.dec with
          ch0 := c0, ch1 := c1, blockRem := s.conf.blockAlign - 8#32
          pend := s.dec.pend ++ if s.cfg.msimaEmitHeaderSample then [c0.pred, c1.pred] else [] } })

/-- R201, R203: MSIMA_MONO_BODY under every INVERT and INVERT_MODE. What a nibble order other than the default does, and that
NIBBLE_ORDER_SWAP swaps it, is read by inference (log entry 13). -/
def Obligations.MsimaMonoBodyDecodesOneByte : Prop :=
  ∀ s : State, s.srcChanged = false → s.cursor.toNat < min s.conf.endPos.toNat s.srcLen.toNat →
    let b := srcByte s.src s.cursor.toNat
    let inverted (m : InvertMode) : Prop := s.conf.invert = true ∧ s.cfg.invertMode = m
    let inv (c : Code) : Code := if inverted .nibbleSign then c ^^^ 8#4 else c
    let outv (x : Sample) : Sample :=
      if inverted .outputNegate then BitVec.ofInt 16 (min (max (-x.toInt) (-32768)) 32767) else x
    let o : NibbleOrder :=
      if inverted .nibbleOrderSwap then swapOrder s.cfg.nibbleOrder.msima else s.cfg.nibbleOrder.msima
    let c := imaStepChannel s.cfg (inv (firstCode o b)) s.dec.ch0
    let d := imaStepChannel s.cfg (inv (secondCode o b)) c
    exec .msimaMonoBody s = .next { s with
      cursor := BitVec.ofNat 32 (s.cursor.toNat + 1)
      dec := { s.dec with
        ch0 := d, blockRem := s.dec.blockRem - 1#32, pend := s.dec.pend ++ [outv c.pred, outv d.pred] } }

/-- R202, R91: MSIMA_STEREO_BODY decodes a group of four bytes for each channel and outputs eight frames, left then right. What a
nibble order other than the default does is read by inference (log entry 13). -/
def Obligations.MsimaStereoBodyDecodesOneGroup : Prop :=
  ∀ s : State, s.srcChanged = false → s.cursor.toNat + 7 < min s.conf.endPos.toNat s.srcLen.toNat →
    let o := msimaOrder s.cfg s.conf.invert
    let codes (j : Nat) : List Code :=
      [0, 1, 2, 3].flatMap fun m =>
        let b := srcByte s.src (s.cursor.toNat + (j + m))
        [firstCode o b, secondCode o b]
    let after (ch : Channel) (cs : List Code) (k : Nat) : Channel :=
      (cs.take (k + 1)).foldl (fun x c => imaStepChannel s.cfg (msimaInv s.cfg s.conf.invert c) x) ch
    let sample (ch : Channel) (cs : List Code) (k : Nat) : Sample :=
      msimaOut s.cfg s.conf.invert (after ch cs k).pred
    exec .msimaStereoBody s = .next { s with
      cursor := BitVec.ofNat 32 (s.cursor.toNat + 8)
      dec := { s.dec with
        ch0 := after s.dec.ch0 (codes 0) 7
        ch1 := after s.dec.ch1 (codes 4) 7
        blockRem := s.dec.blockRem - 8#32
        pend := s.dec.pend ++
          [0, 1, 2, 3, 4, 5, 6, 7].flatMap fun k => [sample s.dec.ch0 (codes 0) k, sample s.dec.ch1 (codes 4) k] } }

/-- R210, R93: DK3_HEADER loads the sum pair into CH[0] and the difference pair into CH[1] from where DK3_HEADER's layout puts
them, clears the half-byte cursor and emits nothing. -/
def Obligations.Dk3HeaderLoadsThePairs : Prop :=
  ∀ s : State, s.srcChanged = false → s.cursor.toNat + 15 < min s.conf.endPos.toNat s.srcLen.toNat →
    let h := s.cfg.dk3Layout
    let at' (o : Nat) : Nat := (srcByte s.src (s.cursor.toNat + o)).toNat
    let pred (o : Nat) : Word16 := BitVec.ofNat 16 (at' o + 256 * at' (o + 1))
    let idx (o : Nat) : Byte := BitVec.ofNat 8 (min (at' o) 88)
    exec .dk3Header s = .next { s with
      cursor := BitVec.ofNat 32 (s.cursor.toNat + 16)
      dec := { s.dec with
        ch0 := { s.dec.ch0 with pred := pred h.sumPred, index := idx h.sumIndex }
        ch1 := { s.dec.ch1 with pred := pred h.diffPred, index := idx h.diffIndex }
        topNib := false, lastByte := 0#8, blockRem := s.conf.blockAlign - 16#32 } }

/-- R212, R213, R211, R214: DK3_BODY under both schedules, at each TOPNIB the schedule allows: which nibbles of which bytes step
which channel, the frames, and the half-byte cursor after. Under DK3_COMBINE = unstated, of which R214 states no formula, that a frame is a
function of the two predictors alone is the model's choice (log entry 12). -/
def Obligations.Dk3BodyDecodesItsNibbles : Prop :=
  ∀ s : State, s.srcChanged = false →
    let lim := min s.conf.endPos.toNat s.srcLen.toNat
    let cur := s.cursor.toNat
    let b0 := srcByte s.src cur
    let b1 := srcByte s.src (cur + 1)
    let st (ch : Channel) (c : Code) : Channel := imaStepChannel s.cfg c ch
    let frame (x y : Channel) : List Sample :=
      let f := dk3Combine s.cfg.dk3Combine x.pred y.pred
      [f.1, f.2]
    (s.cfg.dk3Schedule = .sds → s.dec.topNib = false → cur + 1 < lim →
      let x := st s.dec.ch0 (lo b0)
      let y := st s.dec.ch1 (hi b0)
      let z := st x (lo b1)
      exec .dk3Body s = .next { s with
        cursor := BitVec.ofNat 32 (cur + 2)
        dec := { s.dec with
          ch0 := z, ch1 := y, topNib := true, lastByte := b1, blockRem := s.dec.blockRem - 2#32
          pend := s.dec.pend ++ (frame x y ++ frame z y) } }) ∧
    (s.cfg.dk3Schedule = .sds → s.dec.topNib = true → cur < lim →
      let x := st s.dec.ch0 (hi s.dec.lastByte)
      let y := st s.dec.ch1 (lo b0)
      let z := st x (hi b0)
      exec .dk3Body s = .next { s with
        cursor := BitVec.ofNat 32 (cur + 1)
        dec := { s.dec with
          ch0 := z, ch1 := y, topNib := false, lastByte := b0, blockRem := s.dec.blockRem - 1#32
          pend := s.dec.pend ++ (frame x y ++ frame z y) } }) ∧
    (s.cfg.dk3Schedule = .sd → s.dec.topNib = false → cur < lim →
      let x := st s.dec.ch0 (lo b0)
      let y := st s.dec.ch1 (hi b0)
      exec .dk3Body s = .next { s with
        cursor := BitVec.ofNat 32 (cur + 1)
        dec := { s.dec with
          ch0 := x, ch1 := y, topNib := false, lastByte := b0, blockRem := s.dec.blockRem - 1#32
          pend := s.dec.pend ++ frame x y } })

/-- R214: the DK3 combination under the source's formula, each of the pair clamped to 16 bits. -/
def Obligations.Dk3CombinesSumAndDifference : Prop :=
  ∀ sum diff : Word16,
    (dk3Combine .sumDiff sum diff).1.toInt = min (max (sum.toInt + diff.toInt) (-32768)) 32767 ∧
      (dk3Combine .sumDiff sum diff).2.toInt = min (max (sum.toInt - diff.toInt) (-32768)) 32767

/-- R233, R95: MS_ADPCM_HEADER loads each configured channel from the field-major header and emits the older frame, then the
newer. -/
def Obligations.MsAdpcmHeaderLoadsTheSeeds : Prop :=
  ∀ s : State, s.srcChanged = false →
    let cur := s.cursor.toNat
    let lim := min s.conf.endPos.toNat s.srcLen.toNat
    let word (a : Nat) : Word16 :=
      BitVec.ofNat 16 ((srcByte s.src (cur + a)).toNat + 256 * (srcByte s.src (cur + a + 1)).toNat)
    let load (n c : Nat) (ch : Channel) : Channel :=
      let m := BitVec.ofNat 8 (min (srcByte s.src (cur + c)).toNat (nCoef s.cfg - 1))
      { ch with
        mode := m
        coef1 := (coefEntry s.cfg m.toNat).1
        coef2 := (coefEntry s.cfg m.toNat).2
        delta := (word (n + 2 * c)).signExtend 32
        s2 := word (3 * n + 2 * c)
        s1 := word (5 * n + 2 * c) }
    (s.conf.channels = .mono → cur + 6 < lim →
      let c0 := load 1 0 s.dec.ch0
      exec .msAdpcmHeader s = .next { s with
        cursor := BitVec.ofNat 32 (cur + 7)
        dec := { s.dec with
          ch0 := c0, blockRem := s.conf.blockAlign - 7#32, pend := s.dec.pend ++ [c0.s1, c0.s2] } }) ∧
    (s.conf.channels = .stereo → cur + 13 < lim →
      let c0 := load 2 0 s.dec.ch0
      let c1 := load 2 1 s.dec.ch1
      exec .msAdpcmHeader s = .next { s with
        cursor := BitVec.ofNat 32 (cur + 14)
        dec := { s.dec with
          ch0 := c0, ch1 := c1, blockRem := s.conf.blockAlign - 14#32
          pend := s.dec.pend ++ [c0.s1, c1.s1, c0.s2, c1.s2] } })

/-- R234, R232, R86: MS_ADPCM_BODY decodes a byte's two codes, both on CH[0] in mono, one on each channel in stereo; when either
overflows the unit writes nothing but FAULTREG. R234 and R94 write the default order, high nibble first; that under the other order
the low nibble goes to CH[0] is read by inference (log entry 13). -/
def Obligations.MsAdpcmBodyDecodesOneByte : Prop :=
  ∀ s : State, s.srcChanged = false → s.cursor.toNat < min s.conf.endPos.toNat s.srcLen.toNat →
    let b := srcByte s.src s.cursor.toNat
    let o := s.cfg.nibbleOrder.msAdpcm
    let first := msStepChannel s.cfg (firstCode o b) s.dec.ch0
    let second (ch : Channel) := msStepChannel s.cfg (secondCode o b) ch
    let cur := BitVec.ofNat 32 (s.cursor.toNat + 1)
    let rem := s.dec.blockRem - 1#32
    let overflowed : Host.Outcome State Fault Refusal := .next { s with faultReg := 2#4 }
    (s.conf.channels = .mono →
      (∀ c d, first = some c → second c = some d →
        exec .msAdpcmBody s = .next { s with
          cursor := cur, dec := { s.dec with ch0 := d, blockRem := rem, pend := s.dec.pend ++ [c.s2, d.s2] } }) ∧
      (∀ c, first = some c → second c = none → exec .msAdpcmBody s = overflowed)) ∧
    (s.conf.channels = .stereo →
      (∀ c d, first = some c → second s.dec.ch1 = some d →
        exec .msAdpcmBody s = .next { s with
          cursor := cur
          dec := { s.dec with ch0 := c, ch1 := d, blockRem := rem, pend := s.dec.pend ++ [c.s2, d.s2] } }) ∧
      (∀ c, first = some c → second s.dec.ch1 = none → exec .msAdpcmBody s = overflowed)) ∧
    (first = none → exec .msAdpcmBody s = overflowed)

/-! ### Whole-machine rules -/

/-- R250, R260: no instruction stops the machine: every one answers a next state, in every state. -/
def Obligations.EveryInstructionAnswersNext : Prop :=
  ∀ (i : Instr) (s : State), ∃ t, exec i s = .next t

/-- R37, R62, R140: no instruction changes the argument registers, the parameters and tables, or any byte of the source. -/
def Obligations.InstructionsKeepTheSurroundings : Prop :=
  ∀ (i : Instr) (s t : State), exec i s = .next t →
    SurroundingsKept s t ∧ ∀ a, srcByte t.src a = srcByte s.src a

/-- R41, R256: FAULTREG, once nonzero, keeps its value through every step. -/
def Obligations.FaultIsSticky : Prop :=
  ∀ s t : State, s.faultReg ≠ 0#4 → step s = .next t → t.faultReg = s.faultReg

/-- R40: where each field of STATUS stands, and that the reserved bits read 0. -/
def Obligations.StatusBitsStandWhereTheTableSays : Prop :=
  ∀ (s : State) (short : Bool) (err : Err),
    let w := s.statusNow short err
    (w.getLsbD 0 = true ↔ s.life = .configured) ∧
    (w.getLsbD 1 = true ↔ s.life = .configured ∧ s.cursorValid = true ∧ s.endOfData = true) ∧
    (w.getLsbD 2 = true ↔ s.life = .configured ∧ s.conf.channels = .stereo) ∧
    (w.getLsbD 3 = short) ∧
    (w.getLsbD 4 = true ↔ s.life = .configured ∧ s.cursorValid = true) ∧
    (w.getLsbD 5 = true ↔ s.faultReg ≠ 0#4) ∧
    w.toNat / 64 % 4 = 0 ∧ w.toNat / 256 = err.code.toNat

/-- R44, R280: what power-on reset leaves, for every register the rule names. -/
def Obligations.ResetIsThePowerOnColumn : Prop :=
  State.reset.life = .unconfigured ∧ State.reset.faultReg = 0#4 ∧ State.reset.conf = ActiveConf.zero ∧
  State.reset.dec = Decoder.zero ∧ State.reset.cursor = 0#32 ∧ State.reset.cursorValid = false ∧
  State.reset.args = ArgRegs.zero ∧ State.reset.result = 0#32 ∧ State.reset.status = 0#32

/-! ### Invariants -/

/-- Every invariant below holds at power-on. That the source is canonical there rests on the model's own form of SRC and on its choice
that no source has been presented at reset (log entries 2 and 4); the other clauses are about what R44 and R280 give. -/
def Obligations.InvariantsHoldAtReset : Prop :=
  SourceCanonical State.reset ∧ PendWithinDepth State.reset ∧ CursorBounded State.reset ∧ ChannelsInRange State.reset ∧
  LifecycleConsistent State.reset ∧ BlocksOnGrid State.reset ∧ FaultCodeLegal State.reset ∧ StatusCurrent State.reset

/-- Every step keeps the source canonical (the model's form, log entry 4). -/
def Obligations.StepsKeepTheSourceCanonical : Prop :=
  ∀ s t : State, SourceCanonical s → step s = .next t → SourceCanonical t

/-- R27, R97: every step keeps PEND within 16 samples. -/
def Obligations.StepsKeepPendWithinDepth : Prop :=
  ∀ s t : State, PendWithinDepth s → step s = .next t → PendWithinDepth t

/-- R30: every step keeps CURSOR at most max(START, LIMIT) while configured, as long as the host keeps its duty not to change L
then (R286). -/
def Obligations.StepsKeepTheCursorBounded : Prop :=
  ∀ s t : State, CursorBounded s → step s = .next t → CursorBounded t

/-- R23, R24: every step keeps the channels in their variant's ranges. -/
def Obligations.StepsKeepTheChannelsInRange : Prop :=
  ∀ s t : State, ChannelsInRange s → step s = .next t → ChannelsInRange t

/-- R34, R44, R119: every step keeps the configuration legal while configured and everything blank while not. -/
def Obligations.StepsKeepTheLifecycleConsistent : Prop :=
  ∀ s t : State, LifecycleConsistent s → step s = .next t → LifecycleConsistent t

/-- R65, R67, R113: every step keeps blocks on the grid from START, tiled exactly by body units. -/
def Obligations.StepsKeepTheBlocksOnTheGrid : Prop :=
  ∀ s t : State, BlocksOnGrid s → step s = .next t → BlocksOnGrid t

/-- R128, R40: every step keeps STATUS what R40 says of the state; EOD alone can lag behind, where the host has changed L under the
decoder (R286). -/
def Obligations.StepsKeepStatusCurrent : Prop :=
  ∀ s t : State, StatusCurrent s → step s = .next t → StatusCurrent t

/-- R257: every step keeps FAULTREG at 0 or a code that is raised. -/
def Obligations.StepsKeepTheFaultCodeLegal : Prop :=
  ∀ s t : State, FaultCodeLegal s → step s = .next t → FaultCodeLegal t
end

