-- ==== Sys2Proof/Laws/State.lean ====
section
/-! SUPPORT. One lemma for each field after each update of the state, and the updates that are written by others. -/

namespace Sys2Proof.Machine

variable (s : State)

/-! ### What each update leaves alone -/

@[simp] theorem State.setCh_life (k : Chan) (c : Channel) : (s.setCh k c).life = s.life := by cases k <;> rfl
@[simp] theorem State.setCh_faultReg (k : Chan) (c : Channel) : (s.setCh k c).faultReg = s.faultReg := by cases k <;> rfl
@[simp] theorem State.setCh_conf (k : Chan) (c : Channel) : (s.setCh k c).conf = s.conf := by cases k <;> rfl
@[simp] theorem State.setCh_cursor (k : Chan) (c : Channel) : (s.setCh k c).cursor = s.cursor := by cases k <;> rfl
@[simp] theorem State.setCh_cursorValid (k : Chan) (c : Channel) : (s.setCh k c).cursorValid = s.cursorValid := by cases k <;> rfl
@[simp] theorem State.setCh_args (k : Chan) (c : Channel) : (s.setCh k c).args = s.args := by cases k <;> rfl
@[simp] theorem State.setCh_result (k : Chan) (c : Channel) : (s.setCh k c).result = s.result := by cases k <;> rfl
@[simp] theorem State.setCh_status (k : Chan) (c : Channel) : (s.setCh k c).status = s.status := by cases k <;> rfl
@[simp] theorem State.setCh_cfg (k : Chan) (c : Channel) : (s.setCh k c).cfg = s.cfg := by cases k <;> rfl
@[simp] theorem State.setCh_src (k : Chan) (c : Channel) : (s.setCh k c).src = s.src := by cases k <;> rfl
@[simp] theorem State.setCh_srcLen (k : Chan) (c : Channel) : (s.setCh k c).srcLen = s.srcLen := by cases k <;> rfl
@[simp] theorem State.setCh_pending (k : Chan) (c : Channel) : (s.setCh k c).pending = s.pending := by cases k <;> rfl
@[simp] theorem State.setCh_readData (k : Chan) (c : Channel) : (s.setCh k c).readData = s.readData := by cases k <;> rfl
@[simp] theorem State.setCh_samplePort (k : Chan) (c : Channel) : (s.setCh k c).samplePort = s.samplePort := by cases k <;> rfl
@[simp] theorem State.setCh_hostBuf (k : Chan) (c : Channel) : (s.setCh k c).hostBuf = s.hostBuf := by cases k <;> rfl
@[simp] theorem State.setCh_srcChanged (k : Chan) (c : Channel) : (s.setCh k c).srcChanged = s.srcChanged := by cases k <;> rfl
@[simp] theorem State.setCh_draws (k : Chan) (c : Channel) : (s.setCh k c).draws = s.draws := by cases k <;> rfl

@[simp] theorem State.setPend_life (p : List Sample) : (s.setPend p).life = s.life := rfl
@[simp] theorem State.setPend_faultReg (p : List Sample) : (s.setPend p).faultReg = s.faultReg := rfl
@[simp] theorem State.setPend_conf (p : List Sample) : (s.setPend p).conf = s.conf := rfl
@[simp] theorem State.setPend_cursor (p : List Sample) : (s.setPend p).cursor = s.cursor := rfl
@[simp] theorem State.setPend_cursorValid (p : List Sample) : (s.setPend p).cursorValid = s.cursorValid := rfl
@[simp] theorem State.setPend_args (p : List Sample) : (s.setPend p).args = s.args := rfl
@[simp] theorem State.setPend_result (p : List Sample) : (s.setPend p).result = s.result := rfl
@[simp] theorem State.setPend_status (p : List Sample) : (s.setPend p).status = s.status := rfl
@[simp] theorem State.setPend_cfg (p : List Sample) : (s.setPend p).cfg = s.cfg := rfl
@[simp] theorem State.setPend_src (p : List Sample) : (s.setPend p).src = s.src := rfl
@[simp] theorem State.setPend_srcLen (p : List Sample) : (s.setPend p).srcLen = s.srcLen := rfl
@[simp] theorem State.setPend_pending (p : List Sample) : (s.setPend p).pending = s.pending := rfl
@[simp] theorem State.setPend_readData (p : List Sample) : (s.setPend p).readData = s.readData := rfl
@[simp] theorem State.setPend_samplePort (p : List Sample) : (s.setPend p).samplePort = s.samplePort := rfl
@[simp] theorem State.setPend_hostBuf (p : List Sample) : (s.setPend p).hostBuf = s.hostBuf := rfl
@[simp] theorem State.setPend_srcChanged (p : List Sample) : (s.setPend p).srcChanged = s.srcChanged := rfl
@[simp] theorem State.setPend_draws (p : List Sample) : (s.setPend p).draws = s.draws := rfl

@[simp] theorem State.setBlockRem_life (r : Word32) : (s.setBlockRem r).life = s.life := rfl
@[simp] theorem State.setBlockRem_faultReg (r : Word32) : (s.setBlockRem r).faultReg = s.faultReg := rfl
@[simp] theorem State.setBlockRem_conf (r : Word32) : (s.setBlockRem r).conf = s.conf := rfl
@[simp] theorem State.setBlockRem_cursor (r : Word32) : (s.setBlockRem r).cursor = s.cursor := rfl
@[simp] theorem State.setBlockRem_cursorValid (r : Word32) : (s.setBlockRem r).cursorValid = s.cursorValid := rfl
@[simp] theorem State.setBlockRem_args (r : Word32) : (s.setBlockRem r).args = s.args := rfl
@[simp] theorem State.setBlockRem_result (r : Word32) : (s.setBlockRem r).result = s.result := rfl
@[simp] theorem State.setBlockRem_status (r : Word32) : (s.setBlockRem r).status = s.status := rfl
@[simp] theorem State.setBlockRem_cfg (r : Word32) : (s.setBlockRem r).cfg = s.cfg := rfl
@[simp] theorem State.setBlockRem_src (r : Word32) : (s.setBlockRem r).src = s.src := rfl
@[simp] theorem State.setBlockRem_srcLen (r : Word32) : (s.setBlockRem r).srcLen = s.srcLen := rfl
@[simp] theorem State.setBlockRem_pending (r : Word32) : (s.setBlockRem r).pending = s.pending := rfl
@[simp] theorem State.setBlockRem_readData (r : Word32) : (s.setBlockRem r).readData = s.readData := rfl
@[simp] theorem State.setBlockRem_samplePort (r : Word32) : (s.setBlockRem r).samplePort = s.samplePort := rfl
@[simp] theorem State.setBlockRem_hostBuf (r : Word32) : (s.setBlockRem r).hostBuf = s.hostBuf := rfl
@[simp] theorem State.setBlockRem_srcChanged (r : Word32) : (s.setBlockRem r).srcChanged = s.srcChanged := rfl
@[simp] theorem State.setBlockRem_draws (r : Word32) : (s.setBlockRem r).draws = s.draws := rfl

@[simp] theorem State.setNibble_life (b : Bool) (x : Byte) : (s.setNibble b x).life = s.life := rfl
@[simp] theorem State.setNibble_faultReg (b : Bool) (x : Byte) : (s.setNibble b x).faultReg = s.faultReg := rfl
@[simp] theorem State.setNibble_conf (b : Bool) (x : Byte) : (s.setNibble b x).conf = s.conf := rfl
@[simp] theorem State.setNibble_cursor (b : Bool) (x : Byte) : (s.setNibble b x).cursor = s.cursor := rfl
@[simp] theorem State.setNibble_cursorValid (b : Bool) (x : Byte) : (s.setNibble b x).cursorValid = s.cursorValid := rfl
@[simp] theorem State.setNibble_args (b : Bool) (x : Byte) : (s.setNibble b x).args = s.args := rfl
@[simp] theorem State.setNibble_result (b : Bool) (x : Byte) : (s.setNibble b x).result = s.result := rfl
@[simp] theorem State.setNibble_status (b : Bool) (x : Byte) : (s.setNibble b x).status = s.status := rfl
@[simp] theorem State.setNibble_cfg (b : Bool) (x : Byte) : (s.setNibble b x).cfg = s.cfg := rfl
@[simp] theorem State.setNibble_src (b : Bool) (x : Byte) : (s.setNibble b x).src = s.src := rfl
@[simp] theorem State.setNibble_srcLen (b : Bool) (x : Byte) : (s.setNibble b x).srcLen = s.srcLen := rfl
@[simp] theorem State.setNibble_pending (b : Bool) (x : Byte) : (s.setNibble b x).pending = s.pending := rfl
@[simp] theorem State.setNibble_readData (b : Bool) (x : Byte) : (s.setNibble b x).readData = s.readData := rfl
@[simp] theorem State.setNibble_samplePort (b : Bool) (x : Byte) : (s.setNibble b x).samplePort = s.samplePort := rfl
@[simp] theorem State.setNibble_hostBuf (b : Bool) (x : Byte) : (s.setNibble b x).hostBuf = s.hostBuf := rfl
@[simp] theorem State.setNibble_srcChanged (b : Bool) (x : Byte) : (s.setNibble b x).srcChanged = s.srcChanged := rfl
@[simp] theorem State.setNibble_draws (b : Bool) (x : Byte) : (s.setNibble b x).draws = s.draws := rfl

@[simp] theorem State.latchEnd_life : (s.latchEnd).life = s.life := rfl
@[simp] theorem State.latchEnd_faultReg : (s.latchEnd).faultReg = s.faultReg := rfl
@[simp] theorem State.latchEnd_conf : (s.latchEnd).conf = s.conf := rfl
@[simp] theorem State.latchEnd_cursor : (s.latchEnd).cursor = s.cursor := rfl
@[simp] theorem State.latchEnd_cursorValid : (s.latchEnd).cursorValid = s.cursorValid := rfl
@[simp] theorem State.latchEnd_args : (s.latchEnd).args = s.args := rfl
@[simp] theorem State.latchEnd_result : (s.latchEnd).result = s.result := rfl
@[simp] theorem State.latchEnd_status : (s.latchEnd).status = s.status := rfl
@[simp] theorem State.latchEnd_cfg : (s.latchEnd).cfg = s.cfg := rfl
@[simp] theorem State.latchEnd_src : (s.latchEnd).src = s.src := rfl
@[simp] theorem State.latchEnd_srcLen : (s.latchEnd).srcLen = s.srcLen := rfl
@[simp] theorem State.latchEnd_pending : (s.latchEnd).pending = s.pending := rfl
@[simp] theorem State.latchEnd_readData : (s.latchEnd).readData = s.readData := rfl
@[simp] theorem State.latchEnd_samplePort : (s.latchEnd).samplePort = s.samplePort := rfl
@[simp] theorem State.latchEnd_hostBuf : (s.latchEnd).hostBuf = s.hostBuf := rfl
@[simp] theorem State.latchEnd_srcChanged : (s.latchEnd).srcChanged = s.srcChanged := rfl
@[simp] theorem State.latchEnd_draws : (s.latchEnd).draws = s.draws := rfl

@[simp] theorem State.advance_life (n : Nat) : (s.advance n).life = s.life := rfl
@[simp] theorem State.advance_faultReg (n : Nat) : (s.advance n).faultReg = s.faultReg := rfl
@[simp] theorem State.advance_conf (n : Nat) : (s.advance n).conf = s.conf := rfl
@[simp] theorem State.advance_dec (n : Nat) : (s.advance n).dec = s.dec := rfl
@[simp] theorem State.advance_cursorValid (n : Nat) : (s.advance n).cursorValid = s.cursorValid := rfl
@[simp] theorem State.advance_args (n : Nat) : (s.advance n).args = s.args := rfl
@[simp] theorem State.advance_result (n : Nat) : (s.advance n).result = s.result := rfl
@[simp] theorem State.advance_status (n : Nat) : (s.advance n).status = s.status := rfl
@[simp] theorem State.advance_cfg (n : Nat) : (s.advance n).cfg = s.cfg := rfl
@[simp] theorem State.advance_src (n : Nat) : (s.advance n).src = s.src := rfl
@[simp] theorem State.advance_srcLen (n : Nat) : (s.advance n).srcLen = s.srcLen := rfl
@[simp] theorem State.advance_pending (n : Nat) : (s.advance n).pending = s.pending := rfl
@[simp] theorem State.advance_readData (n : Nat) : (s.advance n).readData = s.readData := rfl
@[simp] theorem State.advance_samplePort (n : Nat) : (s.advance n).samplePort = s.samplePort := rfl
@[simp] theorem State.advance_hostBuf (n : Nat) : (s.advance n).hostBuf = s.hostBuf := rfl
@[simp] theorem State.advance_srcChanged (n : Nat) : (s.advance n).srcChanged = s.srcChanged := rfl
@[simp] theorem State.advance_draws (n : Nat) : (s.advance n).draws = s.draws := rfl

@[simp] theorem State.raise_life (f : FaultCode) : (s.raise f).life = s.life := rfl
@[simp] theorem State.raise_conf (f : FaultCode) : (s.raise f).conf = s.conf := rfl
@[simp] theorem State.raise_dec (f : FaultCode) : (s.raise f).dec = s.dec := rfl
@[simp] theorem State.raise_cursor (f : FaultCode) : (s.raise f).cursor = s.cursor := rfl
@[simp] theorem State.raise_cursorValid (f : FaultCode) : (s.raise f).cursorValid = s.cursorValid := rfl
@[simp] theorem State.raise_args (f : FaultCode) : (s.raise f).args = s.args := rfl
@[simp] theorem State.raise_result (f : FaultCode) : (s.raise f).result = s.result := rfl
@[simp] theorem State.raise_status (f : FaultCode) : (s.raise f).status = s.status := rfl
@[simp] theorem State.raise_cfg (f : FaultCode) : (s.raise f).cfg = s.cfg := rfl
@[simp] theorem State.raise_src (f : FaultCode) : (s.raise f).src = s.src := rfl
@[simp] theorem State.raise_srcLen (f : FaultCode) : (s.raise f).srcLen = s.srcLen := rfl
@[simp] theorem State.raise_pending (f : FaultCode) : (s.raise f).pending = s.pending := rfl
@[simp] theorem State.raise_readData (f : FaultCode) : (s.raise f).readData = s.readData := rfl
@[simp] theorem State.raise_samplePort (f : FaultCode) : (s.raise f).samplePort = s.samplePort := rfl
@[simp] theorem State.raise_hostBuf (f : FaultCode) : (s.raise f).hostBuf = s.hostBuf := rfl
@[simp] theorem State.raise_srcChanged (f : FaultCode) : (s.raise f).srcChanged = s.srcChanged := rfl
@[simp] theorem State.raise_draws (f : FaultCode) : (s.raise f).draws = s.draws := rfl

@[simp] theorem State.resetDecoder_life : (s.resetDecoder).life = s.life := rfl
@[simp] theorem State.resetDecoder_faultReg : (s.resetDecoder).faultReg = s.faultReg := rfl
@[simp] theorem State.resetDecoder_conf : (s.resetDecoder).conf = s.conf := rfl
@[simp] theorem State.resetDecoder_cursor : (s.resetDecoder).cursor = s.cursor := rfl
@[simp] theorem State.resetDecoder_cursorValid : (s.resetDecoder).cursorValid = s.cursorValid := rfl
@[simp] theorem State.resetDecoder_args : (s.resetDecoder).args = s.args := rfl
@[simp] theorem State.resetDecoder_result : (s.resetDecoder).result = s.result := rfl
@[simp] theorem State.resetDecoder_status : (s.resetDecoder).status = s.status := rfl
@[simp] theorem State.resetDecoder_cfg : (s.resetDecoder).cfg = s.cfg := rfl
@[simp] theorem State.resetDecoder_src : (s.resetDecoder).src = s.src := rfl
@[simp] theorem State.resetDecoder_srcLen : (s.resetDecoder).srcLen = s.srcLen := rfl
@[simp] theorem State.resetDecoder_pending : (s.resetDecoder).pending = s.pending := rfl
@[simp] theorem State.resetDecoder_readData : (s.resetDecoder).readData = s.readData := rfl
@[simp] theorem State.resetDecoder_samplePort : (s.resetDecoder).samplePort = s.samplePort := rfl
@[simp] theorem State.resetDecoder_hostBuf : (s.resetDecoder).hostBuf = s.hostBuf := rfl
@[simp] theorem State.resetDecoder_srcChanged : (s.resetDecoder).srcChanged = s.srcChanged := rfl
@[simp] theorem State.resetDecoder_draws : (s.resetDecoder).draws = s.draws := rfl

@[simp] theorem State.finish_life (r : Word32) (sh : Bool) (e : Err) : (s.finish r sh e).life = s.life := rfl
@[simp] theorem State.finish_faultReg (r : Word32) (sh : Bool) (e : Err) : (s.finish r sh e).faultReg = s.faultReg := rfl
@[simp] theorem State.finish_conf (r : Word32) (sh : Bool) (e : Err) : (s.finish r sh e).conf = s.conf := rfl
@[simp] theorem State.finish_dec (r : Word32) (sh : Bool) (e : Err) : (s.finish r sh e).dec = s.dec := rfl
@[simp] theorem State.finish_cursor (r : Word32) (sh : Bool) (e : Err) : (s.finish r sh e).cursor = s.cursor := rfl
@[simp] theorem State.finish_cursorValid (r : Word32) (sh : Bool) (e : Err) : (s.finish r sh e).cursorValid = s.cursorValid := rfl
@[simp] theorem State.finish_args (r : Word32) (sh : Bool) (e : Err) : (s.finish r sh e).args = s.args := rfl
@[simp] theorem State.finish_cfg (r : Word32) (sh : Bool) (e : Err) : (s.finish r sh e).cfg = s.cfg := rfl
@[simp] theorem State.finish_src (r : Word32) (sh : Bool) (e : Err) : (s.finish r sh e).src = s.src := rfl
@[simp] theorem State.finish_srcLen (r : Word32) (sh : Bool) (e : Err) : (s.finish r sh e).srcLen = s.srcLen := rfl
@[simp] theorem State.finish_pending (r : Word32) (sh : Bool) (e : Err) : (s.finish r sh e).pending = s.pending := rfl
@[simp] theorem State.finish_readData (r : Word32) (sh : Bool) (e : Err) : (s.finish r sh e).readData = s.readData := rfl
@[simp] theorem State.finish_samplePort (r : Word32) (sh : Bool) (e : Err) : (s.finish r sh e).samplePort = s.samplePort := rfl
@[simp] theorem State.finish_hostBuf (r : Word32) (sh : Bool) (e : Err) : (s.finish r sh e).hostBuf = s.hostBuf := rfl
@[simp] theorem State.finish_srcChanged (r : Word32) (sh : Bool) (e : Err) : (s.finish r sh e).srcChanged = s.srcChanged := rfl
@[simp] theorem State.finish_draws (r : Word32) (sh : Bool) (e : Err) : (s.finish r sh e).draws = s.draws := rfl

@[simp] theorem State.deliver_life (out : List Sample) : (s.deliver out).life = s.life := rfl
@[simp] theorem State.deliver_faultReg (out : List Sample) : (s.deliver out).faultReg = s.faultReg := rfl
@[simp] theorem State.deliver_conf (out : List Sample) : (s.deliver out).conf = s.conf := rfl
@[simp] theorem State.deliver_dec (out : List Sample) : (s.deliver out).dec = s.dec := rfl
@[simp] theorem State.deliver_cursor (out : List Sample) : (s.deliver out).cursor = s.cursor := rfl
@[simp] theorem State.deliver_cursorValid (out : List Sample) : (s.deliver out).cursorValid = s.cursorValid := rfl
@[simp] theorem State.deliver_args (out : List Sample) : (s.deliver out).args = s.args := rfl
@[simp] theorem State.deliver_result (out : List Sample) : (s.deliver out).result = s.result := rfl
@[simp] theorem State.deliver_status (out : List Sample) : (s.deliver out).status = s.status := rfl
@[simp] theorem State.deliver_cfg (out : List Sample) : (s.deliver out).cfg = s.cfg := rfl
@[simp] theorem State.deliver_src (out : List Sample) : (s.deliver out).src = s.src := rfl
@[simp] theorem State.deliver_srcLen (out : List Sample) : (s.deliver out).srcLen = s.srcLen := rfl
@[simp] theorem State.deliver_pending (out : List Sample) : (s.deliver out).pending = s.pending := rfl
@[simp] theorem State.deliver_readData (out : List Sample) : (s.deliver out).readData = s.readData := rfl
@[simp] theorem State.deliver_srcChanged (out : List Sample) : (s.deliver out).srcChanged = s.srcChanged := rfl
@[simp] theorem State.deliver_draws (out : List Sample) : (s.deliver out).draws = s.draws := rfl

@[simp] theorem State.drawn_life : (s.drawn).life = s.life := rfl
@[simp] theorem State.drawn_faultReg : (s.drawn).faultReg = s.faultReg := rfl
@[simp] theorem State.drawn_conf : (s.drawn).conf = s.conf := rfl
@[simp] theorem State.drawn_dec : (s.drawn).dec = s.dec := rfl
@[simp] theorem State.drawn_cursor : (s.drawn).cursor = s.cursor := rfl
@[simp] theorem State.drawn_cursorValid : (s.drawn).cursorValid = s.cursorValid := rfl
@[simp] theorem State.drawn_args : (s.drawn).args = s.args := rfl
@[simp] theorem State.drawn_result : (s.drawn).result = s.result := rfl
@[simp] theorem State.drawn_status : (s.drawn).status = s.status := rfl
@[simp] theorem State.drawn_cfg : (s.drawn).cfg = s.cfg := rfl
@[simp] theorem State.drawn_src : (s.drawn).src = s.src := rfl
@[simp] theorem State.drawn_srcLen : (s.drawn).srcLen = s.srcLen := rfl
@[simp] theorem State.drawn_srcChanged : (s.drawn).srcChanged = s.srcChanged := rfl
@[simp] theorem State.drawn_pending : (s.drawn).pending = s.pending := rfl
@[simp] theorem State.drawn_readData : (s.drawn).readData = s.readData := rfl
@[simp] theorem State.drawn_samplePort : (s.drawn).samplePort = s.samplePort := rfl
@[simp] theorem State.drawn_hostBuf : (s.drawn).hostBuf = s.hostBuf := rfl

/-! ### What each update writes -/

@[simp] theorem State.setPend_dec (p : List Sample) : (s.setPend p).dec = { s.dec with pend := p } := rfl
@[simp] theorem State.setBlockRem_dec (r : Word32) : (s.setBlockRem r).dec = { s.dec with blockRem := r } := rfl
@[simp] theorem State.setNibble_dec (b : Bool) (x : Byte) :
    (s.setNibble b x).dec = { s.dec with topNib := b, lastByte := x } := rfl
@[simp] theorem State.latchEnd_dec : s.latchEnd.dec = { s.dec with eodLatch := true } := rfl
@[simp] theorem State.resetDecoder_dec : s.resetDecoder.dec = Decoder.zero := rfl
@[simp] theorem State.advance_cursor (n : Nat) : (s.advance n).cursor = BitVec.ofNat 32 (s.cursor.toNat + n) := rfl
@[simp] theorem State.raise_faultReg (f : FaultCode) : (s.raise f).faultReg = f.code := rfl
@[simp] theorem State.finish_result (r : Word32) (sh : Bool) (e : Err) : (s.finish r sh e).result = r := rfl
@[simp] theorem State.finish_status (r : Word32) (sh : Bool) (e : Err) : (s.finish r sh e).status = s.statusNow sh e := rfl
@[simp] theorem State.deliver_samplePort (out : List Sample) : (s.deliver out).samplePort = s.samplePort ++ out := rfl
@[simp] theorem State.deliver_hostBuf (out : List Sample) :
    (s.deliver out).hostBuf = out ++ s.hostBuf.drop out.length := rfl
@[simp] theorem State.drawn_draws : s.drawn.draws = s.draws + 1 := rfl

/-! ### A unit whose samples are unpredictable keeps all of its rule's effect but the samples -/

section Unpredictable
variable (t : State)
@[simp] theorem State.unpredictable_life : (s.unpredictable t).life = t.life := rfl
@[simp] theorem State.unpredictable_faultReg : (s.unpredictable t).faultReg = t.faultReg := rfl
@[simp] theorem State.unpredictable_conf : (s.unpredictable t).conf = t.conf := rfl
@[simp] theorem State.unpredictable_cursor : (s.unpredictable t).cursor = t.cursor := rfl
@[simp] theorem State.unpredictable_cursorValid : (s.unpredictable t).cursorValid = t.cursorValid := rfl
@[simp] theorem State.unpredictable_args : (s.unpredictable t).args = t.args := rfl
@[simp] theorem State.unpredictable_result : (s.unpredictable t).result = t.result := rfl
@[simp] theorem State.unpredictable_status : (s.unpredictable t).status = t.status := rfl
@[simp] theorem State.unpredictable_cfg : (s.unpredictable t).cfg = t.cfg := rfl
@[simp] theorem State.unpredictable_src : (s.unpredictable t).src = s.src := rfl
@[simp] theorem State.unpredictable_srcLen : (s.unpredictable t).srcLen = t.srcLen := rfl
@[simp] theorem State.unpredictable_srcChanged : (s.unpredictable t).srcChanged = t.srcChanged := rfl
@[simp] theorem State.unpredictable_pending : (s.unpredictable t).pending = t.pending := rfl
@[simp] theorem State.unpredictable_readData : (s.unpredictable t).readData = t.readData := rfl
@[simp] theorem State.unpredictable_samplePort : (s.unpredictable t).samplePort = t.samplePort := rfl
@[simp] theorem State.unpredictable_hostBuf : (s.unpredictable t).hostBuf = t.hostBuf := rfl
@[simp] theorem State.unpredictable_draws : (s.unpredictable t).draws = s.draws + 1 := rfl
@[simp] theorem State.unpredictable_ch0 : (s.unpredictable t).dec.ch0 = t.dec.ch0 := rfl
@[simp] theorem State.unpredictable_ch1 : (s.unpredictable t).dec.ch1 = t.dec.ch1 := rfl
@[simp] theorem State.unpredictable_blockRem : (s.unpredictable t).dec.blockRem = t.dec.blockRem := rfl
@[simp] theorem State.unpredictable_topNib : (s.unpredictable t).dec.topNib = t.dec.topNib := rfl
@[simp] theorem State.unpredictable_lastByte : (s.unpredictable t).dec.lastByte = t.dec.lastByte := rfl
@[simp] theorem State.unpredictable_eodLatch : (s.unpredictable t).dec.eodLatch = t.dec.eodLatch := rfl
@[simp] theorem State.unpredictable_pend :
    (s.unpredictable t).dec.pend =
      s.dec.pend ++ freeSamples s.draws (t.dec.pend.length - s.dec.pend.length) := rfl
end Unpredictable

@[simp] theorem freeSamples_length (d n : Nat) : (freeSamples d n).length = n := by simp [freeSamples]

@[simp] theorem State.setCh_zero_dec (c : Channel) : (s.setCh .zero c).dec = { s.dec with ch0 := c } := rfl
@[simp] theorem State.setCh_one_dec (c : Channel) : (s.setCh .one c).dec = { s.dec with ch1 := c } := rfl
@[simp] theorem State.ch_zero : s.ch .zero = s.dec.ch0 := rfl
@[simp] theorem State.ch_one : s.ch .one = s.dec.ch1 := rfl
@[simp] theorem State.ch_setCh (k : Chan) (c : Channel) : (s.setCh k c).ch k = c := by cases k <;> rfl
theorem State.ch_setCh_ne {j k : Chan} (h : j ≠ k) (c : Channel) : (s.setCh k c).ch j = s.ch j := by
  cases j <;> cases k <;> first | rfl | exact absurd rfl h

/-! ### The channel update and the rest of the decoder -/

@[simp] theorem State.setCh_blockRem (k : Chan) (c : Channel) : (s.setCh k c).dec.blockRem = s.dec.blockRem := by
  cases k <;> rfl
@[simp] theorem State.setCh_topNib (k : Chan) (c : Channel) : (s.setCh k c).dec.topNib = s.dec.topNib := by cases k <;> rfl
@[simp] theorem State.setCh_lastByte (k : Chan) (c : Channel) : (s.setCh k c).dec.lastByte = s.dec.lastByte := by
  cases k <;> rfl
@[simp] theorem State.setCh_pend (k : Chan) (c : Channel) : (s.setCh k c).dec.pend = s.dec.pend := by cases k <;> rfl
@[simp] theorem State.setCh_eodLatch (k : Chan) (c : Channel) : (s.setCh k c).dec.eodLatch = s.dec.eodLatch := by
  cases k <;> rfl

/-! ### Updates made of others -/

@[simp] theorem State.emit_eq (xs : List Sample) : s.emit xs = s.setPend (s.dec.pend ++ xs) := rfl
@[simp] theorem State.consume_eq (n : Nat) : s.consume n = s.setBlockRem (s.dec.blockRem - BitVec.ofNat 32 n) := rfl
@[simp] theorem State.beginBlock_eq (n : Nat) :
    s.beginBlock n = s.setBlockRem (s.conf.blockAlign - BitVec.ofNat 32 n) := rfl
@[simp] theorem State.refuse_eq (e : Err) : s.refuse e = s.finish 0#32 false e := rfl

/-! ### What is read of a state depends on few fields -/

theorem State.limit_congr {s t : State} (hc : t.conf = s.conf) (hl : t.srcLen = s.srcLen) : t.limit = s.limit := by
  simp only [State.limit, hc, hl]

theorem State.isStereo_congr {s t : State} (hc : t.conf = s.conf) : t.isStereo = s.isStereo := by
  simp only [State.isStereo, hc]

theorem State.isFaulted_eq_false_iff : s.isFaulted = false ↔ s.faultReg = 0#4 := by simp [State.isFaulted]

theorem State.isFaulted_eq_true_iff : s.isFaulted = true ↔ s.faultReg ≠ 0#4 := by simp [State.isFaulted]

theorem State.atEnd_eq_false_iff :
    s.atEnd = false ↔ s.dec.eodLatch = false ∧ s.cursor.toNat < s.limit := by simp [State.atEnd]

end Sys2Proof.Machine
end

