-- ==== Sys2Proof/Laws/Codes.lean ====
section
/-! SUPPORT. The small lemmas of the operand forms and of the steps on one channel record. -/

namespace Sys2Proof.Machine

/-- Narrowing after `clamp16` keeps the exact value. -/
theorem int16_clamp16_toInt (v : Int) : (int16 (clamp16 v)).toInt = min (max v (-32768)) 32767 := by
  simp only [int16, clamp16, clamp, BitVec.toInt_ofInt]
  exact Int.bmod_eq_of_le (by omega) (by omega)

/-- Narrowing after the 12-bit clamp keeps the exact value. -/
theorem int16_clamp12_toInt (v : Int) : (int16 (clamp v (-2048) 2047)).toInt = min (max v (-2048)) 2047 := by
  simp only [int16, clamp, BitVec.toInt_ofInt]
  exact Int.bmod_eq_of_le (by omega) (by omega)

/-- The step index after a code, as a number. -/
theorem nextIndex_toNat (c : Config) {hi : Nat} (h : hi ≤ 255) (code : Code) (i : Byte) :
    ((nextIndex c hi code i).toNat : Int) = min (max (i.toNat + stepAdjustEntry c code) 0) hi := by
  simp only [nextIndex, clamp, BitVec.toNat_ofInt]
  omega

theorem nextIndex_le (c : Config) {hi : Nat} (h : hi ≤ 255) (code : Code) (i : Byte) :
    (nextIndex c hi code i).toNat ≤ hi := by
  have := nextIndex_toNat c h code i
  omega

/-- A bit of a code as its arithmetic reads it. -/
theorem code_getLsbD (c : Code) (i : Nat) : c.getLsbD i = true ↔ c.toNat / 2 ^ i % 2 = 1 := by
  simp [BitVec.getLsbD, Nat.testBit_eq_decide_div_mod_eq]

theorem headerIndex_le (v : Nat) : (headerIndex v).toNat ≤ 88 := by
  simp only [headerIndex, BitVec.toNat_ofNat]
  omega

theorem headerMode_lt (c : Config) (m : Byte) : (headerMode c m).toNat < nCoef c := by
  have := m.isLt
  simp only [headerMode, nCoef, BitVec.toNat_ofNat]
  omega

/-- A code that does not overflow shifts the history, keeps the mode and the coefficients, and sets the new delta (R230). -/
theorem msStepChannel_some {cfg : Config} {code : Code} {ch ch' : Channel} (h : msStepChannel cfg code ch = some ch') :
    msNextDelta cfg code ch ≤ 2 ^ 31 - 1 ∧
      ch' = { ch with s1 := ch.s2, s2 := msOutput cfg code ch, delta := BitVec.ofInt 32 (msNextDelta cfg code ch) } := by
  unfold msStepChannel at h
  split at h
  · cases h
  · cases h; exact ⟨by omega, rfl⟩

theorem msimaRun_length (c : Config) (invert : Bool) (codes : List Code) (ch : Channel) :
    (msimaRun c invert codes ch).2.length = codes.length := by
  induction codes generalizing ch with
  | nil => rfl
  | cons a rest ih => simp [msimaRun, ih]

theorem interleave_length {xs ys : List Sample} (h : xs.length = ys.length) :
    (interleave xs ys).length = 2 * xs.length := by
  induction xs generalizing ys with
  | nil => rfl
  | cons a rest ih =>
    cases ys with
    | nil => cases h
    | cons b rest' =>
      simp only [List.length_cons, Nat.add_right_cancel_iff] at h
      simp only [interleave, List.length_cons, ih h]
      omega

theorem codesOf_length (o : NibbleOrder) (bs : List Byte) : (codesOf o bs).length = 2 * bs.length := by
  induction bs with
  | nil => rfl
  | cons b rest ih => simp only [codesOf, List.flatMap_cons, List.length_append] at ih ⊢; rw [ih]; simp; omega

/-- The channel of OKI's second code in stereo with a predictor for each channel (R162). -/
theorem okiSecondChan_perChannel {s : State} (h : s.conf.channels = .stereo) (h' : s.cfg.okiStereo = .perChannel) :
    okiSecondChan s = .one := by
  simp [okiSecondChan, State.isStereo, h, h']

/-- The channel of OKI's second code otherwise (R162). -/
theorem okiSecondChan_shared {s : State} (h : ¬(s.conf.channels = .stereo ∧ s.cfg.okiStereo = .perChannel)) :
    okiSecondChan s = .zero := by
  unfold okiSecondChan
  rw [if_neg (by simpa [State.isStereo] using h)]

theorem State.isStereo_iff (s : State) : s.isStereo = true ↔ s.conf.channels = .stereo := by simp [State.isStereo]

/-- LIMIT is an offset. -/
theorem State.limit_lt (s : State) : s.limit < 2 ^ 32 := by
  have := s.srcLen.isLt
  simp only [State.limit]
  omega

end Sys2Proof.Machine
end

