-- ==== Sys2Proof/Laws/Units.lean ====
section
/-! SUPPORT. What a unit and a nibble primitive can do: the unit check, and the frame of each. -/

namespace Sys2Proof.Machine

/-- A state without the parts a unit's rule changes. -/
def State.outside (s : State) : State := { s with dec := Decoder.zero, cursor := 0#32, faultReg := 0#4 }

/-- The frame as an equation between what surrounds the engine. -/
theorem engineFrame_iff {s t : State} :
    EngineFrame s t ↔ t.outside = { s.outside with draws := t.draws } ∧ (s.srcChanged = false → t.draws = s.draws) := by
  refine and_congr_left fun _ => ⟨fun h => by rw [h]; rfl, fun h => ?_⟩
  cases s; cases t
  simp only [State.outside, State.mk.injEq] at h
  simp only [State.mk.injEq]
  simp_all

/-- A rule that keeps what surrounds the engine has its frame. -/
theorem EngineFrame.of_outside {s t : State} (h : t.outside = s.outside) : EngineFrame s t := by
  have hd : t.outside.draws = s.outside.draws := by rw [h]
  replace hd : t.draws = s.draws := hd
  exact engineFrame_iff.2 ⟨by rw [h, hd]; rfl, fun _ => hd⟩

theorem EngineFrame.refl (s : State) : EngineFrame s s := EngineFrame.of_outside rfl

theorem EngineFrame.srcChanged_eq {s t : State} (h : EngineFrame s t) : t.srcChanged = s.srcChanged := by rw [h.1]

theorem EngineFrame.trans {s t u : State} (h : EngineFrame s t) (h' : EngineFrame t u) : EngineFrame s u := by
  obtain ⟨e, d⟩ := engineFrame_iff.1 h
  obtain ⟨e', d'⟩ := engineFrame_iff.1 h'
  exact engineFrame_iff.2 ⟨by rw [e', e], fun hs => (d' (h.srcChanged_eq.trans hs)).trans (d hs)⟩

section Outside
variable (s : State)
@[simp] theorem State.setCh_outside (k : Chan) (c : Channel) : (s.setCh k c).outside = s.outside := by cases k <;> rfl
@[simp] theorem State.setPend_outside (p : List Sample) : (s.setPend p).outside = s.outside := rfl
@[simp] theorem State.advance_outside (n : Nat) : (s.advance n).outside = s.outside := rfl
@[simp] theorem State.setBlockRem_outside (r : Word32) : (s.setBlockRem r).outside = s.outside := rfl
@[simp] theorem State.setNibble_outside (b : Bool) (x : Byte) : (s.setNibble b x).outside = s.outside := rfl
@[simp] theorem State.latchEnd_outside : s.latchEnd.outside = s.outside := rfl
@[simp] theorem State.raise_outside (f : FaultCode) : (s.raise f).outside = s.outside := rfl
@[simp] theorem State.imaStep_outside (k : Chan) (c : Code) : (s.imaStep k c).outside = s.outside := by
  simp [State.imaStep]
@[simp] theorem State.okiStep_outside (k : Chan) (c : Code) : (s.okiStep k c).outside = s.outside := by
  simp [State.okiStep]
@[simp] theorem State.imaEmit_outside (k : Chan) (c : Code) : (s.imaEmit k c).outside = s.outside := by
  simp [State.imaEmit]
@[simp] theorem State.okiEmit_outside (k : Chan) (c : Code) : (s.okiEmit k c).outside = s.outside := by
  simp [State.okiEmit]
@[simp] theorem State.msimaEmit_outside (k : Chan) (c : Code) : (s.msimaEmit k c).outside = s.outside := by
  simp [State.msimaEmit]
@[simp] theorem nextNibState_outside : (nextNibState s).outside = s.outside := by
  unfold nextNibState; split <;> simp
@[simp] theorem State.dk3Step_outside (k : Chan) : (s.dk3Step k).outside = s.outside := by simp [State.dk3Step]
@[simp] theorem State.dk3Emit_outside : s.dk3Emit.outside = s.outside := by simp [State.dk3Emit]
@[simp] theorem appleSkip_outside : (appleSkip s).outside = s.outside := by unfold appleSkip; split <;> simp
end Outside

theorem State.msEmit_outside {s t : State} {k : Chan} {c : Code} (h : s.msEmit k c = some t) : t.outside = s.outside := by
  unfold State.msEmit at h
  split at h
  · cases h
  · cases h; simp

/-- The unit check (R121, R123): the rule is performed, or, where the source was changed under the decoder, performed with
unpredictable samples (R286), or only EODLATCH is set. -/
theorem performUnit_cases (offs : List Nat) (body : State → State) (s : State) :
    (s.available offs = true ∧ s.srcChanged = false ∧ performUnit offs body s = body s) ∨
      (s.available offs = true ∧ s.srcChanged = true ∧
        performUnit offs body s = s.unpredictable (body { s with src := s.freeSource offs })) ∨
      (s.available offs = false ∧ performUnit offs body s = s.latchEnd) := by
  unfold performUnit
  cases s.available offs <;> cases s.srcChanged <;> simp

theorem performUnit_frame {offs : List Nat} {body : State → State} (s : State)
    (h : ∀ u, (body u).outside = u.outside) : EngineFrame s (performUnit offs body s) := by
  rcases performUnit_cases offs body s with ⟨_, _, e⟩ | ⟨_, hc, e⟩ | ⟨_, e⟩ <;> rw [e]
  · exact EngineFrame.of_outside (h s)
  · refine engineFrame_iff.2 ⟨?_, fun hs => absurd (hc.symm.trans hs) (by decide)⟩
    have hb := congrArg (fun u : State => { u with src := s.src, draws := s.draws + 1 }) (h { s with src := s.freeSource offs })
    exact hb
  · exact EngineFrame.of_outside s.latchEnd_outside

theorem State.available_iff {s : State} {offs : List Nat} :
    s.available offs = true ↔ ∀ o ∈ offs, s.cursor.toNat + o < s.limit := by
  simp only [State.available, State.addr, List.all_eq_true, decide_eq_true_eq]

/-- A unit whose bytes are all below LIMIT performs its rule (R121). -/
theorem performUnit_available {offs : List Nat} {s : State} (body : State → State) (hc : s.srcChanged = false)
    (h : ∀ o ∈ offs, s.cursor.toNat + o < s.limit) : performUnit offs body s = body s := by
  unfold performUnit
  rw [if_pos (State.available_iff.2 h), if_neg (by simp [hc])]

/-- The same where the source was changed under the decoder: what the rule makes of the free bytes, with free samples (R286). -/
theorem performUnit_unpredictable {offs : List Nat} {s : State} (body : State → State) (hc : s.srcChanged = true)
    (h : ∀ o ∈ offs, s.cursor.toNat + o < s.limit) :
    performUnit offs body s = s.unpredictable (body { s with src := s.freeSource offs }) := by
  unfold performUnit
  rw [if_pos (State.available_iff.2 h), if_pos hc]

/-- A unit with a byte at or above LIMIT sets EODLATCH (R123). -/
theorem performUnit_cutOff {offs : List Nat} {s : State} (body : State → State) {o : Nat} (ho : o ∈ offs)
    (h : s.limit ≤ s.cursor.toNat + o) : performUnit offs body s = s.latchEnd := by
  unfold performUnit
  rw [if_neg]
  intro ha
  have := State.available_iff.1 ha o ho
  omega

/-- The offsets of a DK3 body unit, counted (R96). -/
theorem dk3BodyOffsets_eq (s : State) : dk3BodyOffsets s = List.range (dk3UnitBytes s) := by
  simp only [dk3BodyOffsets, dk3UnitBytes]
  cases s.cfg.dk3Schedule <;> cases s.dec.topNib <;> rfl

/-! ### The frame of each unit -/

section UnitFrames
variable (s : State)

theorem okiBody_frame : EngineFrame s (okiBody s) := performUnit_frame s fun _ => by simp
theorem imaGenericBody_frame : EngineFrame s (imaGenericBody s) := performUnit_frame s fun _ => by simp [imaStreamBody]
theorem dviBody_frame : EngineFrame s (dviBody s) := performUnit_frame s fun _ => by simp [imaStreamBody]
theorem appleImaHeader_frame : EngineFrame s (appleImaHeader s) :=
  performUnit_frame s fun _ => by simp [appleLoad]; split <;> simp
theorem appleImaBody_frame : EngineFrame s (appleImaBody s) :=
  performUnit_frame s fun _ => by split <;> simp [appleMonoBody, appleStereoBody]
theorem msimaMonoHeader_frame : EngineFrame s (msimaMonoHeader s) := performUnit_frame s fun _ => by simp
theorem msimaMonoBody_frame : EngineFrame s (msimaMonoBody s) := performUnit_frame s fun _ => by simp
theorem msimaStereoHeader_frame : EngineFrame s (msimaStereoHeader s) := performUnit_frame s fun _ => by simp
theorem msimaStereoBody_frame : EngineFrame s (msimaStereoBody s) := performUnit_frame s fun _ => by simp
theorem dk3Header_frame : EngineFrame s (dk3Header s) := performUnit_frame s fun _ => by simp
theorem dk3Body_frame : EngineFrame s (dk3Body s) :=
  performUnit_frame s fun _ => by split <;> simp [dk3SdsBody, dk3SdBody]
theorem msAdpcmHeader_frame : EngineFrame s (msAdpcmHeader s) :=
  performUnit_frame s fun _ => by simp; split <;> simp [msStereoHeader, msMonoHeader]
theorem msBodyCodes_outside {t : State} (h : msBodyCodes s = some t) : t.outside = s.outside := by
  simp only [msBodyCodes] at h
  split at h
  · cases h
  · rename_i u hu
    exact (State.msEmit_outside h).trans (State.msEmit_outside hu)
theorem msAdpcmBody_frame : EngineFrame s (msAdpcmBody s) := by
  refine performUnit_frame s fun u => ?_
  split
  · simp
  · rename_i t ht
    simpa using msBodyCodes_outside u ht

end UnitFrames

/-- The frame of the engine's dispatch: whatever unit it performs. -/
theorem runUnit_frame (i : Instr) (s : State) : EngineFrame s (runUnit i s) := by
  cases i with
  | okiBody => exact okiBody_frame s
  | imaGenericBody => exact imaGenericBody_frame s
  | dviBody => exact dviBody_frame s
  | appleImaHeader => exact appleImaHeader_frame s
  | appleImaBody => exact appleImaBody_frame s
  | msimaMonoHeader => exact msimaMonoHeader_frame s
  | msimaMonoBody => exact msimaMonoBody_frame s
  | msimaStereoHeader => exact msimaStereoHeader_frame s
  | msimaStereoBody => exact msimaStereoBody_frame s
  | dk3Header => exact dk3Header_frame s
  | dk3Body => exact dk3Body_frame s
  | msAdpcmHeader => exact msAdpcmHeader_frame s
  | msAdpcmBody => exact msAdpcmBody_frame s
  | configure | readBuffer | endOfData | isStereo | getRate | rewind | release => exact EngineFrame.refl s
  | imaStep | okiStep | msAdpcmStep => exact EngineFrame.refl s

theorem dispatchUnit_frame (s : State) : EngineFrame s (dispatchUnit s) := by
  unfold dispatchUnit
  split
  · exact runUnit_frame _ s
  · exact EngineFrame.refl s

/-- exec of a unit is the unit the engine runs. -/
theorem exec_unit {i : Instr} (h : i.isUnit = true) (s : State) : exec i s = .next (runUnit i s) := by
  cases i <;> first | rfl | cases h

end Sys2Proof.Machine
end

