-- ==== Sys2Proof/Laws/Engine.lean ====
section
/-! SUPPORT. What the engine and its loop can do: the units it dispatches, the loop's frame, its output, and the one induction
over its turns. -/

namespace Sys2Proof.Machine

theorem decodeDispatch_body (v : Variant) : decodeDispatch (BitVec.ofNat 8 (16 * v.code + 0)) = .ok v.bodyUnit := by
  cases v <;> rfl

theorem decodeDispatch_header (v : Variant) (h : isBlocked v = true) :
    ∃ i, v.headerUnit = some i ∧ decodeDispatch (BitVec.ofNat 8 (16 * v.code + 1)) = .ok i := by
  cases v <;> first | exact absurd h (by decide) | exact ⟨_, rfl, rfl⟩

/-- The dispatched unit is the header of a blocked variant that is due one, and the body otherwise. -/
theorem dispatchUnit_cases (s : State) :
    (∃ i, isBlocked s.conf.variant = true ∧ s.dec.blockRem = 0#32 ∧ s.conf.variant.headerUnit = some i ∧
        dispatchUnit s = runUnit i s) ∨
      ((isBlocked s.conf.variant = false ∨ s.dec.blockRem ≠ 0#32) ∧
        dispatchUnit s = runUnit s.conf.variant.bodyUnit s) := by
  unfold dispatchUnit State.dispatchWord State.phase
  by_cases h : isBlocked s.conf.variant = true ∧ s.dec.blockRem = 0#32
  · obtain ⟨i, hi, hd⟩ := decodeDispatch_header _ h.1
    exact .inl ⟨i, h.1, h.2, hi, by simp only [h.1, h.2, decide_true, Bool.and_self, if_true, hd]⟩
  · have hp : (isBlocked s.conf.variant && decide (s.dec.blockRem = 0#32)) = false := by
      simpa [Bool.and_eq_false_iff, Classical.not_and_iff_not_or_not] using h
    refine .inr ⟨?_, by simp only [hp, Bool.false_eq_true, if_false, decodeDispatch_body]⟩
    by_cases hb : isBlocked s.conf.variant = true
    · exact .inr fun hr => h ⟨hb, hr⟩
    · exact .inl (by simpa using hb)

/-- A loop keeps what a delivered sample and a dispatched unit keep. -/
theorem readLoop_induct {P : State → Prop}
    (pop : ∀ s x rest, s.dec.pend = x :: rest → P s → P (s.setPend rest))
    (unit : ∀ s, s.dec.pend = [] → s.isFaulted = false → s.atEnd = false → P s → P (dispatchUnit s)) :
    ∀ fuel max out s, P s → P (readLoop fuel max out s).2 := by
  intro fuel
  induction fuel with
  | zero => intro max out s h; exact h
  | succ n ih =>
    intro max out s h
    unfold readLoop
    split
    · exact h
    · split
      · rename_i x rest hp; exact ih _ _ _ (pop s x rest hp h)
      · rename_i hp
        split
        · exact h
        · rename_i hg
          simp only [Bool.or_eq_true, not_or, Bool.not_eq_true] at hg
          exact ih _ _ _ (unit s hp hg.1 hg.2 h)

/-- The frame of ReadLoop. -/
theorem readLoop_frame (fuel max : Nat) (out : List Sample) (s : State) : EngineFrame s (readLoop fuel max out s).2 :=
  readLoop_induct (P := EngineFrame s) (fun _ _ _ _ h => h.trans (EngineFrame.of_outside (State.setPend_outside _ _)))
    (fun t _ _ _ h => h.trans (dispatchUnit_frame t)) fuel max out s (EngineFrame.refl s)

/-- ReadLoop only appends to what was collected. -/
theorem readLoop_prefix (fuel max : Nat) (out : List Sample) (s : State) :
    ∃ xs, (readLoop fuel max out s).1 = out ++ xs := by
  induction fuel generalizing out s with
  | zero => exact ⟨[], (List.append_nil _).symm⟩
  | succ n ih =>
    unfold readLoop
    split
    · exact ⟨[], (List.append_nil _).symm⟩
    · split
      · rename_i x rest _
        obtain ⟨xs, h⟩ := ih (out ++ [x]) (s.setPend rest)
        exact ⟨x :: xs, by rw [h]; simp⟩
      · split
        · exact ⟨[], (List.append_nil _).symm⟩
        · exact ih out (dispatchUnit s)

/-- ReadLoop collects no more than `max` samples. -/
theorem readLoop_length_le (fuel max : Nat) (out : List Sample) (s : State) (h : out.length ≤ max) :
    (readLoop fuel max out s).1.length ≤ max := by
  induction fuel generalizing out s with
  | zero => exact h
  | succ n ih =>
    unfold readLoop
    split
    · exact h
    · split
      · rename_i hlt _ x rest _; exact ih _ _ (by simp; omega)
      · split
        · exact h
        · exact ih _ _ h

/-- The samples collected before a loop do not change what it does after them. -/
theorem readLoop_append (fuel max : Nat) (pre out : List Sample) (s : State) :
    readLoop fuel (pre.length + max) (pre ++ out) s =
      (pre ++ (readLoop fuel max out s).1, (readLoop fuel max out s).2) := by
  induction fuel generalizing out s with
  | zero => rfl
  | succ n ih =>
    unfold readLoop
    rw [List.length_append]
    by_cases h : max ≤ out.length
    · rw [if_pos (by omega), if_pos h]
    · rw [if_neg (by omega), if_neg h]
      cases s.dec.pend with
      | cons x rest => simpa using ih (out ++ [x]) (s.setPend rest)
      | nil =>
        simp only
        split
        · rfl
        · exact ih out (dispatchUnit s)

end Sys2Proof.Machine
end

