-- ==== Sys2Proof/Laws/Commands.lean ====
section
/-! SUPPORT. What a step and each command can do, said once, so that a proof about every step is a proof about each of these. -/

namespace Sys2Proof.Machine

/-! ### The parts of a command -/

/-- The pre-checks: refused with an error, or passed. -/
theorem preChecked_cases (need : Life) (body : State → State) (s : State) :
    (∃ e, preChecked need body s = s.finish 0#32 false e) ∨
      (s.faultReg = 0#4 ∧ s.life = need ∧ preChecked need body s = body s) := by
  unfold preChecked
  cases hf : s.isFaulted
  · by_cases hl : s.life = need
    · exact .inr ⟨s.isFaulted_eq_false_iff.1 hf, hl, by simp [hl]⟩
    · refine .inl ?_
      cases need <;> exact ⟨_, by simp [hl]; rfl⟩
  · exact .inl ⟨.cmdFaulted, by simp⟩

/-- The pre-checks of an unfaulted block in the right lifecycle state. -/
theorem preChecked_pass {need : Life} {s : State} (body : State → State) (hf : s.faultReg = 0#4) (hl : s.life = need) :
    preChecked need body s = body s := by
  unfold preChecked
  rw [s.isFaulted_eq_false_iff.2 hf, if_neg Bool.false_ne_true, if_pos hl]

/-- CONFIGURE: an error in RESULT and STATUS only, or the latched configuration. -/
theorem configureBody_cases (s : State) :
    (∃ e, configureCheck s.cfg s.args = .error e ∧ configureBody s = s.finish 0#32 false e) ∨
      ∃ cf, configureCheck s.cfg s.args = .ok cf ∧ configureBody s = (s.latch cf).finish 1#32 false .none := by
  unfold configureBody
  cases configureCheck s.cfg s.args with
  | ok cf => exact .inr ⟨cf, rfl, rfl⟩
  | error e => exact .inl ⟨e, rfl, rfl⟩

/-- The end of a read: the delivery, RESULT and STATUS. -/
theorem finishRead_cases (max : Nat) (out : List Sample) (s : State) :
    ∃ short err, finishRead max out s = (s.deliver out).finish (BitVec.ofNat 32 out.length) short err := by
  unfold finishRead
  split <;> exact ⟨_, _, rfl⟩

/-- READ_BUFFER: refused, faulted at the undefined position, or a run of ReadLoop. -/
theorem readBufferBody_cases (s : State) :
    readBufferBody s = s.finish 0#32 false .cmdBadArg ∨
      (s.cursorValid = false ∧
        readBufferBody s = finishRead (maxSamples s.args.max) [] (s.raise .positionUndefined)) ∨
      (s.cursorValid = true ∧
        readBufferBody s = finishRead (maxSamples s.args.max) (readSamples (maxSamples s.args.max) s).1
          (readSamples (maxSamples s.args.max) s).2) := by
  unfold readBufferBody
  split
  · exact .inl rfl
  · cases hv : s.cursorValid
    · exact .inr (.inl ⟨rfl, by simp⟩)
    · split
      · rename_i h; simp at h
      · split
        · exact .inl rfl
        · exact .inr (.inr ⟨rfl, rfl⟩)

/-- END_OF_DATA: only RESULT, STATUS and the draw counter. -/
theorem endOfDataBody_cases (s : State) :
    (∃ r, endOfDataBody s = s.finish r false .none) ∨ ∃ r, endOfDataBody s = s.drawn.finish r false .none := by
  unfold endOfDataBody
  split
  · exact .inl ⟨_, rfl⟩
  · exact .inr ⟨_, rfl⟩

/-- REWIND: reset(), and then the start position or an undefined one. -/
theorem rewindWith_cases (ok : Bool) (s : State) :
    (ok = true ∧ rewindWith ok s =
        { s.resetDecoder with cursor := s.conf.start, cursorValid := true }.finish 1#32 false .none) ∨
      (ok = false ∧ rewindWith ok s = { s.resetDecoder with cursorValid := false }.finish 0#32 false .seekFailed) := by
  cases ok
  · exact .inr ⟨rfl, rfl⟩
  · exact .inl ⟨rfl, rfl⟩

/-! ### Every command -/

/-- What a command can do to the state: seven shapes, whatever the command. -/
inductive CommandEffect (s : State) : State → Prop where
  /-- RESULT and STATUS only: a refusal, a failed CONFIGURE, a query. -/
  | report (r : Word32) (err : Err) : CommandEffect s (s.finish r false err)
  /-- The same with a draw taken: END_OF_DATA at an undefined position. -/
  | draw (r : Word32) : CommandEffect s (s.drawn.finish r false .none)
  /-- A CONFIGURE that passes its checks. -/
  | configured (cf : ActiveConf) (hl : s.life = .unconfigured) (hc : configureCheck s.cfg s.args = .ok cf) :
      CommandEffect s ((s.latch cf).finish 1#32 false .none)
  /-- READ_BUFFER at an undefined position. -/
  | undefinedRead (max : Nat) (hf : s.faultReg = 0#4) (hl : s.life = .configured) (hv : s.cursorValid = false) :
      CommandEffect s (finishRead max [] (s.raise .positionUndefined))
  /-- READ_BUFFER through ReadLoop. -/
  | read (max : Nat) (hf : s.faultReg = 0#4) (hl : s.life = .configured) (hv : s.cursorValid = true) :
      CommandEffect s (finishRead max (readSamples max s).1 (readSamples max s).2)
  /-- REWIND with either outcome of its seek. -/
  | rewound (ok : Bool) (hl : s.life = .configured) : CommandEffect s (rewindWith ok s.drawn)
  /-- RELEASE. -/
  | released (hl : s.life = .configured) : CommandEffect s (releaseBody s)

theorem CommandEffect.of_preChecked {need : Life} {body : State → State} {s : State}
    (h : s.faultReg = 0#4 → s.life = need → CommandEffect s (body s)) : CommandEffect s (preChecked need body s) := by
  rcases preChecked_cases need body s with ⟨e, he⟩ | ⟨hf, hl, he⟩
  · rw [he]; exact .report _ _
  · rw [he]; exact h hf hl

/-- exec of a command has one of the shapes. -/
theorem exec_command_effect {i : Instr} (hi : i.isCommand = true) {s t : State} (h : exec i s = .next t) :
    CommandEffect s t := by
  cases i <;> first | exact absurd hi Bool.false_ne_true | (cases h; refine CommandEffect.of_preChecked fun hf hl => ?_)
  · rcases configureBody_cases s with ⟨e, _, he⟩ | ⟨cf, hc, he⟩ <;> rw [he]
    · exact .report _ _
    · exact .configured cf hl hc
  · rcases readBufferBody_cases s with he | ⟨hv, he⟩ | ⟨hv, he⟩ <;> rw [he]
    · exact .report _ _
    · exact .undefinedRead _ hf hl hv
    · exact .read _ hf hl hv
  · rcases endOfDataBody_cases s with ⟨r, he⟩ | ⟨r, he⟩ <;> rw [he]
    · exact .report _ _
    · exact .draw r
  · exact .report _ _
  · exact .report _ _
  · exact .rewound _ hl
  · exact .released hl

/-! ### The step -/

theorem decodeCommand_isCommand {v : Word32} {i : Instr} (h : decodeCommand v = .ok i) : i.isCommand = true := by
  unfold decodeCommand at h
  split at h
  · cases h
  · unfold commandOf at h
    split at h
    · rename_i hc; split at hc <;> cases hc <;> cases h <;> rfl
    · cases h

/-- A command word has one of the shapes. -/
theorem runCommandWord_effect {v : Word32} {s t : State} (h : runCommandWord v s = .next t) : CommandEffect s t := by
  unfold runCommandWord at h
  split at h
  · rename_i i hd; exact exec_command_effect (decodeCommand_isCommand hd) h
  · cases h
    unfold illegalCommand
    split <;> exact .report _ _

/-- What a step can do: nothing with no request, or serve one: a command, a register write, a register read, a source. -/
theorem step_cases {s t : State} (h : step s = .next t) :
    (s.pending = [] ∧ t = s) ∨
      ∃ q rest, s.pending = q :: rest ∧
        ((∃ v, q = .write 0#4 v ∧ CommandEffect { s with pending := rest } t) ∨
          (∃ r v, q = .write r v ∧ t = writeReg { s with pending := rest } r v) ∨
          (∃ r, q = .read r ∧ t = { s with pending := rest, readData := readReg { s with pending := rest } r }) ∨
          ∃ bytes, q = .source bytes ∧ bytes.length < 2 ^ 32 ∧
            t = { s with
              pending := rest, src := srcOfBytes 0 bytes, srcLen := BitVec.ofNat 32 bytes.length
              srcChanged := s.srcChanged || decide (s.life = .configured) &&
                s.differs (srcOfBytes 0 bytes) (BitVec.ofNat 32 bytes.length) }) := by
  unfold step at h
  split at h
  · rename_i hp; cases h; exact .inl ⟨hp, rfl⟩
  · rename_i q rest hp
    refine .inr ⟨q, rest, hp, ?_⟩
    cases q with
    | write r v =>
      by_cases hr : r = 0#4
      · subst hr; exact .inl ⟨v, rfl, runCommandWord_effect h⟩
      · simp only [serve, commandWord, hr, if_false, serveAccess] at h
        cases h; exact .inr (.inl ⟨r, v, rfl, rfl⟩)
    | read r => cases h; exact .inr (.inr (.inl ⟨r, rfl, rfl⟩))
    | source bytes =>
      simp only [serve, commandWord, serveAccess, presentSource] at h
      split at h
      · cases h
      · cases h
        exact .inr (.inr (.inr ⟨bytes, rfl, by omega, rfl⟩))

/-- A register write changes an argument register or nothing. -/
theorem writeReg_frame (s : State) (r : BitVec 4) (v : Word32) :
    writeReg s r v = { s with args := (writeReg s r v).args } := by
  unfold writeReg; split <;> rfl

end Sys2Proof.Machine
end

