-- ==== Sys2Proof/Laws/PerInstr.lean ====
section
/-! SUPPORT. The statements made of every instruction, one lemma a constructor. -/

namespace Sys2Proof.Laws.Formable

/-- Some variant forms the instruction: no row of the opcode table is unreachable (30_encoding.md R99). -/
def Statement (i : Instr) : Prop := ∃ v : Variant, i.formedUnder v = true

theorem configure : Statement .configure := ⟨.oki, rfl⟩
theorem readBuffer : Statement .readBuffer := ⟨.oki, rfl⟩
theorem endOfData : Statement .endOfData := ⟨.oki, rfl⟩
theorem isStereo : Statement .isStereo := ⟨.oki, rfl⟩
theorem getRate : Statement .getRate := ⟨.oki, rfl⟩
theorem rewind : Statement .rewind := ⟨.oki, rfl⟩
theorem release : Statement .release := ⟨.oki, rfl⟩
theorem okiBody : Statement .okiBody := ⟨.oki, rfl⟩
theorem imaGenericBody : Statement .imaGenericBody := ⟨.imaGeneric, rfl⟩
theorem dviBody : Statement .dviBody := ⟨.dvi, rfl⟩
theorem appleImaHeader : Statement .appleImaHeader := ⟨.appleIma, rfl⟩
theorem appleImaBody : Statement .appleImaBody := ⟨.appleIma, rfl⟩
theorem msimaMonoHeader : Statement .msimaMonoHeader := ⟨.msimaMono, rfl⟩
theorem msimaMonoBody : Statement .msimaMonoBody := ⟨.msimaMono, rfl⟩
theorem msimaStereoHeader : Statement .msimaStereoHeader := ⟨.msimaStereo, rfl⟩
theorem msimaStereoBody : Statement .msimaStereoBody := ⟨.msimaStereo, rfl⟩
theorem dk3Header : Statement .dk3Header := ⟨.dk3, rfl⟩
theorem dk3Body : Statement .dk3Body := ⟨.dk3, rfl⟩
theorem msAdpcmHeader : Statement .msAdpcmHeader := ⟨.msAdpcm, rfl⟩
theorem msAdpcmBody : Statement .msAdpcmBody := ⟨.msAdpcm, rfl⟩
theorem imaStep (k : Chan) (code : Code) : Statement (.imaStep k code) := ⟨.dvi, rfl⟩
theorem okiStep (k : Chan) (code : Code) : Statement (.okiStep k code) := ⟨.oki, rfl⟩
theorem msAdpcmStep (k : Chan) (code : Code) : Statement (.msAdpcmStep k code) := ⟨.msAdpcm, rfl⟩

end Sys2Proof.Laws.Formable
end

