-- ==== Sys2Proof/Laws/Source.lean ====
section
/-! SUPPORT. The byte source: a presented source is canonical, and reads back byte for byte. -/

namespace Sys2Proof.Machine

theorem srcWfFrom_srcOfBytes (len : Nat) (bs : List Byte) :
    ∀ lo base, lo ≤ base → base + bs.length ≤ len → srcWfFrom len lo (srcOfBytes base bs) = true := by
  induction bs with
  | nil => intro lo base _ _; rfl
  | cons b rest ih =>
    intro lo base h1 h2
    rw [List.length_cons] at h2
    unfold srcOfBytes
    split
    · exact ih lo (base + 1) (by omega) (by omega)
    · rename_i hb
      simp only [srcWfFrom, Bool.and_eq_true, decide_eq_true_eq]
      exact ⟨⟨⟨h1, by omega⟩, hb⟩, ih (base + 1) (base + 1) (by omega) (by omega)⟩

/-- A presented source is canonical. -/
theorem srcWf_srcOfBytes (bs : List Byte) : srcWf (srcOfBytes 0 bs) bs.length = true :=
  srcWfFrom_srcOfBytes bs.length bs 0 0 (by omega) (by omega)

theorem srcByte_srcOfBytes_before (bs : List Byte) :
    ∀ base a, a < base → srcByte (srcOfBytes base bs) a = unlistedByte := by
  induction bs with
  | nil => intro base a _; rfl
  | cons b rest ih =>
    intro base a h
    unfold srcOfBytes
    split
    · exact ih (base + 1) a (by omega)
    · rw [srcByte, if_neg (by omega)]
      exact ih (base + 1) a (by omega)

/-- A presented source reads back the byte at each offset. -/
theorem srcByte_srcOfBytes (bs : List Byte) :
    ∀ base (a : Nat) (h : a < bs.length), srcByte (srcOfBytes base bs) (base + a) = bs[a] := by
  induction bs with
  | nil => intro base a h; exact absurd h (by simp)
  | cons b rest ih =>
    intro base a h
    rw [List.length_cons] at h
    have next : 0 < a → srcByte (srcOfBytes (base + 1) rest) (base + a) = (b :: rest)[a] := by
      intro ha
      obtain ⟨k, rfl⟩ : ∃ k, a = k + 1 := ⟨a - 1, by omega⟩
      have := ih (base + 1) k (by omega)
      rw [show base + 1 + k = base + (k + 1) by omega] at this
      simpa using this
    unfold srcOfBytes
    split
    · rename_i hb
      rcases Nat.eq_zero_or_pos a with rfl | ha
      · rw [srcByte_srcOfBytes_before rest (base + 1) (base + 0) (by omega)]; simpa using hb.symm
      · exact next ha
    · rcases Nat.eq_zero_or_pos a with rfl | ha
      · simp [srcByte]
      · rw [srcByte, if_neg (by omega)]; exact next ha

/-- `MemRead(a, 1)` is the byte at a (R14). -/
@[simp] theorem memRead_one (src : List Host.Cell) (a : Nat) : memRead src a 1 = (srcByte src a).toNat := by
  simp [memRead]

/-- `MemRead(a, 2)` is little-endian (R63). -/
theorem memRead_two (src : List Host.Cell) (a : Nat) :
    memRead src a 2 = (srcByte src a).toNat + 256 * (srcByte src (a + 1)).toNat := by
  simp [memRead]

/-- `MemReadBE(a, 2)` is big-endian (R14). -/
theorem memReadBE_two (src : List Host.Cell) (a : Nat) :
    memReadBE src a 2 = 256 * (srcByte src a).toNat + (srcByte src (a + 1)).toNat := by
  simp [memReadBE]; omega

end Sys2Proof.Machine
end

