-- ==== Sys2Proof/Tests/Slice0.lean ====
section
/-! SUPPORT. Tests from the spec's own examples and vectors (95_test_vectors.md), words written out from its encodings, and a
witness for the hypotheses of each obligation. -/

namespace Sys2Proof.Tests

open Sys2Proof.Machine

/-! ### Helpers -/

/-- What a function says of the next state, if there is one. -/
def seen {α : Type} (f : State → α) (o : Host.Outcome State Fault Refusal) : Option α :=
  match o with
  | .next t => some (f t)
  | .fault _ => none
  | .refused _ => none

/-- A configured block with a source of the given bytes, START = 0 and END = L. -/
def block (v : Variant) (n : ChannelCount) (ba : Nat) (bytes : List Nat) : State :=
  { State.reset with
    life := .configured
    conf := { ActiveConf.zero with
      variant := v, channels := n, rate := 22050#32, blockAlign := BitVec.ofNat 32 ba, endPos := BitVec.ofNat 32 bytes.length }
    cursorValid := true
    src := srcOfBytes 0 (bytes.map (BitVec.ofNat 8))
    srcLen := BitVec.ofNat 32 bytes.length }

/-- The same with A_MAX. -/
def reading (max : Nat) (s : State) : State := { s with args := { s.args with max := BitVec.ofNat 32 max } }

/-- The same with the cursor inside a block. -/
def inside (cursor rem : Nat) (s : State) : State :=
  { s with cursor := BitVec.ofNat 32 cursor, dec := { s.dec with blockRem := BitVec.ofNat 32 rem } }

/-- The same with PRED and INDEX of CH[0]. -/
def channel (pred : Int) (index : Nat) (s : State) : State :=
  { s with dec := { s.dec with ch0 := { s.dec.ch0 with pred := BitVec.ofInt 16 pred, index := BitVec.ofNat 8 index } } }

/-- A MS-ADPCM channel record. -/
def msChannel (s1 s2 coef1 coef2 delta : Int) : Channel :=
  { Channel.zero with
    s1 := BitVec.ofInt 16 s1, s2 := BitVec.ofInt 16 s2, coef1 := BitVec.ofInt 16 coef1, coef2 := BitVec.ofInt 16 coef2
    delta := BitVec.ofInt 32 delta }

/-- PRED and INDEX of CH[0] (p, i). -/
def ch0 (s : State) : Int × Nat := (s.dec.ch0.pred.toInt, s.dec.ch0.index.toNat)

/-- PRED and INDEX of CH[1] (p, i). -/
def ch1 (s : State) : Int × Nat := (s.dec.ch1.pred.toInt, s.dec.ch1.index.toNat)

/-- The samples in PEND. -/
def pending (s : State) : List Int := s.dec.pend.map BitVec.toInt

/-- The argument registers of a CONFIGURE. -/
def arguments (v n ba start endPos flags : Nat) : State :=
  { State.reset with
    args := { ArgRegs.zero with
      variant := BitVec.ofNat 32 v, channels := BitVec.ofNat 32 n, blockAlign := BitVec.ofNat 32 ba
      start := BitVec.ofNat 32 start, endPos := BitVec.ofNat 32 endPos, flags := BitVec.ofNat 32 flags } }

/-! ### WellFormed: an ill-formed term for each check -/

theorem test_default_is_wellFormed : defaultConfig.wellFormed = true := by
  have h : defaultConfig.okiDiff.length = 8 * okiStepCandidate.length := by
    show okiDiffCandidate.length = _
    unfold okiDiffCandidate
    generalize okiStepCandidate = steps
    induction steps with
    | nil => rfl
    | cons a rest ih => rw [List.flatMap_cons, List.length_append, ih]; simp; omega
  have h' : defaultConfig.okiDiffOk = true := by
    unfold Config.okiDiffOk
    rw [h]
    decide
  unfold Config.wellFormed
  rw [h']
  decide
theorem test_smoke_imaStep : { defaultConfig with imaStepRest := [8] }.imaStepOk = false := by decide
theorem test_smoke_stepAdjust : { defaultConfig with stepAdjust := [-1] }.stepAdjustOk = false := by decide
theorem test_smoke_okiDiff : { defaultConfig with okiDiff := [2, 6] }.okiDiffOk = false := by decide
theorem test_smoke_coef :
    { defaultConfig with coefRest := List.replicate 256 (0#16, 0#16) }.coefOk = false := by
  show decide ((List.replicate 256 (0#16, 0#16)).length ≤ 255) = false
  rw [List.length_replicate]
  rfl
theorem test_smoke_adapt : { defaultConfig with adapt := [] }.adaptOk = false := by decide
theorem test_smoke_dk3Layout :
    { defaultConfig with dk3Layout := { dk3LayoutDefault with sumPred := 15 } }.dk3LayoutOk = false := by decide
theorem test_smoke_dk3Index :
    { defaultConfig with dk3Layout := { dk3LayoutDefault with diffIndex := 16 } }.dk3LayoutOk = false := by decide
theorem test_smoke_one_bad_check :
    { defaultConfig with imaStepRest := [], adapt := [] }.wellFormed = false := by rfl
theorem test_smoke_unit_of_another_variant : Instr.dviBody.formedUnder .oki = false := by decide
theorem test_smoke_header_of_another_variant : Instr.dk3Header.formedUnder .msAdpcm = false := by decide
theorem test_smoke_code_of_another_family : (Instr.okiStep .zero 3#4).formedUnder .dvi = false := by decide

/-! ### Decoding: words written out from 30_encoding.md -/

-- R81: bits [31:8] zero, OPC in bits [7:0].
theorem test_decode_configure : decodeTableWord 32 0b00000000000000000000000000000001 = some .configure := by decide
theorem test_decode_readBuffer : decodeTableWord 32 0b00000000000000000000000000000010 = some .readBuffer := by decide
theorem test_decode_endOfData : decodeTableWord 32 0b00000000000000000000000000000011 = some .endOfData := by decide
theorem test_decode_isStereo : decodeTableWord 32 0b00000000000000000000000000000100 = some .isStereo := by decide
theorem test_decode_getRate : decodeTableWord 32 0b00000000000000000000000000000101 = some .getRate := by decide
theorem test_decode_rewind : decodeTableWord 32 0b00000000000000000000000000000110 = some .rewind := by decide
theorem test_decode_release : decodeTableWord 32 0b00000000000000000000000000000111 = some .release := by decide
-- R98: reserved opcodes, and a bit above OPC.
theorem test_decode_reserved_zero : decode (.cmd 0#32) = .error .cmdReservedOpcode := by decide
theorem test_decode_reserved_eight : decode (.cmd 8#32) = .error .cmdReservedOpcode := by decide
theorem test_decode_high_bits : decode (.cmd 0x102#32) = .error .cmdHighBits := by decide
-- R83, R96: VARIANT in bits [7:4], PHASE in bits [3:0].
theorem test_decode_okiBody : decodeTableWord 8 0b00000000 = some .okiBody := by decide
theorem test_decode_imaGenericBody : decodeTableWord 8 0b00010000 = some .imaGenericBody := by decide
theorem test_decode_dviBody : decodeTableWord 8 0b00100000 = some .dviBody := by decide
theorem test_decode_appleImaHeader : decodeTableWord 8 0b00110001 = some .appleImaHeader := by decide
theorem test_decode_appleImaBody : decodeTableWord 8 0b00110000 = some .appleImaBody := by decide
theorem test_decode_msimaMonoHeader : decodeTableWord 8 0b01000001 = some .msimaMonoHeader := by decide
theorem test_decode_msimaMonoBody : decodeTableWord 8 0b01000000 = some .msimaMonoBody := by decide
theorem test_decode_msimaStereoHeader : decodeTableWord 8 0b01010001 = some .msimaStereoHeader := by decide
theorem test_decode_msimaStereoBody : decodeTableWord 8 0b01010000 = some .msimaStereoBody := by decide
theorem test_decode_dk3Header : decodeTableWord 8 0b01100001 = some .dk3Header := by decide
theorem test_decode_dk3Body : decodeTableWord 8 0b01100000 = some .dk3Body := by decide
theorem test_decode_msAdpcmHeader : decodeTableWord 8 0b01110001 = some .msAdpcmHeader := by decide
theorem test_decode_msAdpcmBody : decodeTableWord 8 0b01110000 = some .msAdpcmBody := by decide
-- R99: the words that are never formed.
theorem test_decode_reserved_variant : decode (.dw 0x80#8) = .error .dwReservedVariant := by decide
theorem test_decode_no_header : decode (.dw 0x21#8) = .error .dwNoHeader := by decide
theorem test_decode_reserved_phase : decode (.dw 0x32#8) = .error .dwReservedPhase := by decide
-- R84, R85: the four bits of a code in each family.
theorem test_decode_imaStep : decode (.code .ima .one 0b1010#4) = .ok (.imaStep .one 0b1010#4) := by decide
theorem test_decode_okiStep : decode (.code .oki .zero 0b0011#4) = .ok (.okiStep .zero 0b0011#4) := by decide
theorem test_decode_msAdpcmStep : decode (.code .msAdpcm .one 0b1111#4) = .ok (.msAdpcmStep .one 0b1111#4) := by decide

/-! ### The nibble primitives -/

-- V-IMA-9.
theorem test_imaStep_clamps_the_index :
    seen ch0 (exec (.imaStep .zero 0xF#4) (channel 0 85 (block .dvi .mono 0 []))) = some (-23084, 88) := by decide
-- V-IMA-12.
theorem test_imaStep_negative :
    seen ch0 (exec (.imaStep .zero 0xD#4) (channel (-100) 40 (block .dvi .mono 0 []))) = some (-331, 44) := by decide
-- V-IMA-14 and V-IMA-17: the alternatives of IMA_DIFF.
theorem test_imaDiff_alternatives :
    (imaDiff .mul8 7 2, imaDiff .shiftAdd 7 2, imaDiff .mul8 337 5, imaDiff .shiftAdd 337 5) = (4, 3, 463, 463) := by decide
-- V-OKI-8.
theorem test_okiStep_middle :
    seen ch0 (exec (.okiStep .zero 4#4) (channel 100 20 (block .oki .mono 0 []))) = some (220, 22) := by decide
-- V-OKI-5.
theorem test_okiStep_saturates :
    seen ch0 (exec (.okiStep .zero 0xF#4) (channel (-2048) 48 (block .oki .mono 0 []))) = some (-2048, 48) := by decide
-- V-MSS-8: out, S1', S2', DELTA'.
theorem test_msStep_example :
    (msStepChannel defaultConfig 0xC#4 (msChannel 10 20 460 (-208) 300)).map
      (fun c => (c.s1.toInt, c.s2.toInt, c.delta.toInt)) = some (20, -1199, 359) := by decide
-- V-MSS-3 under TRUNC.
theorem test_msStep_trunc :
    (msStepChannel { defaultConfig with predDiv := .trunc } 0#4 (msChannel (-1) 0 192 64 16)).map
      (fun c => (c.s1.toInt, c.s2.toInt, c.delta.toInt)) = some (0, 0, 16) := by decide

/-! ### The units -/

-- V-OKU-1 and V-OKU-2, the first byte.
theorem test_okiBody_mono : seen pending (exec .okiBody (block .oki .mono 0 [0x30])) = some [224, 256] := by decide
theorem test_okiBody_stereo : seen pending (exec .okiBody (block .oki .stereo 0 [0x30])) = some [224, 32] := by decide
-- V-DVI-2, the first byte.
theorem test_imaGenericBody_mono :
    seen pending (exec .imaGenericBody (block .imaGeneric .mono 0 [0x12])) = some [2, 3] := by decide
-- V-DVI-1, the first byte.
theorem test_dviBody_stereo : seen pending (exec .dviBody (block .dvi .stereo 0 [0x12])) = some [2, 1] := by decide
-- V-APL-5d and V-APL-5a.
theorem test_appleImaHeader_lowest :
    seen ch0 (exec .appleImaHeader (block .appleIma .mono 4 [0x7F, 0x80])) = some (-32768, 88) := by decide
theorem test_appleImaHeader_negative :
    seen ch0 (exec .appleImaHeader (block .appleIma .mono 4 [0x85, 0xFF])) = some (-128, 5) := by decide
-- The example of R191.
theorem test_appleImaBody_mono :
    seen pending (exec .appleImaBody (channel 256 5 (inside 2 2 (block .appleIma .mono 4 [5, 1, 0x21])))) =
      some [258, 261] := by decide
-- V-APL-2: the skip past channel 1's chunk, from CURSOR 2 to 6.
theorem test_appleImaBody_skips_a_chunk :
    seen (fun t => (t.cursor.toNat, t.dec.blockRem.toNat))
      (exec .appleImaBody (inside 2 1 (block .appleIma .stereo 3 [0, 0, 0x12, 0x85, 0xFF, 0x43]))) = some (6, 0) := by decide
-- The example of R200.
theorem test_msimaMonoHeader : seen ch0 (exec .msimaMonoHeader (block .msimaMono .mono 6 [0x10, 0, 3, 0])) = some (16, 3) := by
  decide
-- V-MSI-1 and V-MSI-2, the first data byte.
theorem test_msimaMonoBody :
    seen pending (exec .msimaMonoBody (channel 16 3 (inside 4 2 (block .msimaMono .mono 6 [0x10, 0, 3, 0, 0x21])))) =
      some [17, 19] := by decide
theorem test_msimaMonoBody_inverted :
    seen pending (exec .msimaMonoBody
      (let s := channel 16 3 (inside 4 2 (block .msimaMono .mono 6 [0x10, 0, 3, 0, 0x21]))
       { s with conf := { s.conf with invert := true } })) = some [15, 13] := by decide
-- V-MSI-3: the header, and the group's samples.
theorem test_msimaStereoHeader :
    seen ch1 (exec .msimaStereoHeader (block .msimaStereo .stereo 16 [0, 0, 0, 0, 0, 1, 0x10, 0])) = some (256, 16) := by decide
theorem test_msimaStereoBody :
    seen pending (exec .msimaStereoBody
      (let s := inside 0 8 (block .msimaStereo .stereo 16 [0x12, 0x34, 0x56, 0x78, 0x9A, 0xBC, 0xDE, 0xF0])
       { s with dec := { s.dec with ch1 := { Channel.zero with pred := 256#16, index := 16#8 } } })) =
      some [2, 246, 3, 241, 6, 226, 9, 212, 15, 187, 24, 150, 23, 155, 40, 87] := by decide
-- The example of R210.
theorem test_dk3Header :
    seen (fun t => (ch0 t, ch1 t))
      (exec .dk3Header (block .dk3 .stereo 19 [0, 0, 0, 0, 0, 0, 0, 0, 0, 0, 0, 1, 0x10, 0, 0, 0])) =
      some ((256, 0), (16, 0)) := by decide
-- The example of R212.
theorem test_dk3Body_sds :
    seen (fun t => (pending t, t.dec.topNib, t.dec.lastByte.toNat))
      (exec .dk3Body (let s := channel 256 0 (inside 0 3 (block .dk3 .stereo 19 [0x21, 0x43]))
        { s with dec := { s.dec with ch1 := { Channel.zero with pred := 16#16 } } })) =
      some ([275, 239, 278, 242], true, 0x43) := by decide
-- The example of R213.
theorem test_dk3Body_sd :
    seen pending (exec .dk3Body (let s := channel 256 0 (inside 0 1 (block .dk3 .stereo 17 [0x21]))
        { s with
          dec := { s.dec with ch1 := { Channel.zero with pred := 16#16 } }, cfg := { s.cfg with dk3Schedule := .sd } })) =
      some [275, 239] := by decide
-- V-MSA-3 and V-MSA-4: the headers.
theorem test_msAdpcmHeader_stereo :
    seen pending (exec .msAdpcmHeader
      (block .msAdpcm .stereo 15 [0, 1, 0x10, 0, 0x20, 0, 0x64, 0, 0xC8, 0, 0x32, 0, 0x9C, 0xFF])) =
      some [50, -100, 100, 200] := by decide
theorem test_msAdpcmHeader_clamps_the_mode :
    seen (fun t => (t.dec.ch0.mode.toNat, t.dec.ch0.coef2.toInt, t.dec.ch0.delta.toInt))
      (exec .msAdpcmHeader (block .msAdpcm .mono 8 [9, 0xFB, 0xFF, 0, 0, 0, 0])) = some (6, -232, -5) := by decide
-- The example of R234.
theorem test_msAdpcmBody_mono :
    seen pending (exec .msAdpcmBody (let s := inside 0 1 (block .msAdpcm .mono 8 [0x2F])
        { s with dec := { s.dec with ch0 := msChannel 100 100 256 0 16 } })) = some [132, 84] := by decide
-- V-MSA-5: the eleventh code.
theorem test_msAdpcmBody_overflows :
    seen (fun t => (t.faultReg.toNat, t.cursor.toNat, t.dec.pend)) (exec .msAdpcmBody
      (let s := inside 0 1 (block .msAdpcm .mono 8 [0x88])
       { s with dec := { s.dec with ch0 := msChannel (-32768) (-32768) 256 0 1934858583 } })) = some (2, 0, []) := by decide

/-! ### The commands -/

/-- RESULT and STATUS. -/
def report (s : State) : Nat × Nat := (s.result.toNat, s.status.toNat)

-- V-CFG-6b and V-CFG-3.
theorem test_configure_dk3 : seen report (exec .configure (arguments 6 2 1024 0 0 0)) = some (1, 0x017) := by decide
theorem test_configure_bad_variant : seen report (exec .configure (arguments 9 3 0 0 0 0)) = some (0, 0x200) := by decide
-- P1, step 2.
theorem test_readBuffer_partial :
    seen (fun t => (t.samplePort.map BitVec.toInt, pending t, report t))
      (exec .readBuffer (reading 3 (block .dvi .stereo 0 [0x12, 0x34, 0xF7]))) = some ([2, 1, 5], [4], 3, 0x015) := by decide
-- V-CMD-1.
theorem test_readBuffer_bad_argument :
    seen report (exec .readBuffer (reading 0x80000000 (block .dvi .stereo 0 [0x12, 0x34, 0xF7]))) = some (0, 0xB15) := by
  decide
-- V-CFG-12: START = END.
theorem test_endOfData_of_nothing : seen report (exec .endOfData (block .oki .mono 0 [])) = some (1, 0x013) := by decide
-- V-CMD-6, V-CMD-7.
theorem test_isStereo : seen report (exec .isStereo (block .dvi .stereo 0 [0x12])) = some (1, 0x015) := by decide
theorem test_getRate : seen report (exec .getRate (block .dvi .stereo 0 [0x12])) = some (22050, 0x015) := by decide
-- P6, step 7, and P1, step 6.
theorem test_rewind_failing_seek : report (rewindWith false (block .imaGeneric .mono 0 [0x12, 0x34])) = (0, 0xD01) := by decide
theorem test_rewind : report (rewindWith true (inside 2 0 (block .dvi .stereo 0 [0x12, 0x34, 0xF7]))) = (1, 0x015) := by decide
-- V-CMD-9.
theorem test_release : seen report (exec .release (block .dvi .stereo 0 [0x12])) = some (1, 0x000) := by decide
theorem test_read_after_release : seen report (exec .readBuffer (reading 4 (arguments 0 0 0 0 0 0))) = some (0, 0x800) := by
  decide
/-- P1's stream after its first byte, and a source of the host's that is not it. -/
def overwritten : State :=
  { inside 1 0 (block .dvi .stereo 0 [0x12, 0x34, 0xF7]) with pending := [.source [0x12#8, 0x35#8, 0xF7#8]] }

-- R286: the block does not detect the change, goes on, and every later sample is free; the same bytes are no change (R62).
theorem test_changed_source_is_not_detected :
    seen (fun t => (t.srcChanged, t.status.toNat, t.faultReg.toNat)) (step overwritten) = some (true, 0, 0) ∧
      seen (fun t => t.srcChanged)
        (step { overwritten with pending := [.source [0x12#8, 0x34#8, 0xF7#8]] }) = some false := by decide
theorem test_read_of_a_changed_source :
    (fun t : State => (t.samplePort, t.cursor.toNat, report t)) (readBufferBody (reading 2 { overwritten with srcChanged := true })) =
      ([Config.freeSample 0 0, Config.freeSample 0 1], 2, 2, 0x015) := by rfl
-- V-CMD-4, V-CMD-5: words that are no command.
theorem test_illegal_words :
    seen report (step { block .dvi .stereo 0 [0x12] with pending := [.write 0#4 0x102#32] }) = some (0, 0xA15) ∧
      seen report (step { block .dvi .stereo 0 [0x12] with pending := [.write 0#4 8#32] }) = some (0, 0xA15) := by decide

/-! ### Witnesses: states and operands that meet the hypotheses of each obligation -/

/-- The same with a request waiting. -/
def asked (q : Request) (s : State) : State := { s with pending := [q] }

/-- An unconfigured block with the given fault code. -/
def faulted (f : BitVec 4) (s : State) : State := { s with faultReg := f }

/-- The same with the position undefined. -/
def adrift (s : State) : State := { s with cursorValid := false }

/-- The same with other parameters. -/
def tuned (f : Config → Config) (s : State) : State := { s with cfg := f s.cfg }

/-- P1's stream. -/
def stereoStream : State := block .dvi .stereo 0 [0x12, 0x34, 0xF7]

/-- A block inside the first chunk of a stereo AppleIMA pair, with a READ_BUFFER waiting. -/
def midPair : State :=
  asked (.write 0#4 2#32) (reading 3 (inside 2 1 (block .appleIma .stereo 3 [0, 0, 0x12, 0x85, 0xFF, 0x43])))

theorem witness_DispatchWordNamesTheDueUnit :
    ((block .msAdpcm .mono 8 []).conf.variant ∈ [.appleIma, .msimaMono, .msimaStereo, .dk3, .msAdpcm] ∧
        (block .msAdpcm .mono 8 []).dec.blockRem = 0#32) ∧
      (block .appleIma .mono 3 []).dispatchWord = 0x31#8 ∧
      midPair.dec.blockRem ≠ 0#32 ∧ midPair.dispatchWord = 0x30#8 ∧
      stereoStream.dec.blockRem = 0#32 ∧ stereoStream.dispatchWord = 0x20#8 := by decide

theorem witness_StepRunsTheDecodedCommand :
    midPair.pending = [.write 0#4 2#32] ∧ decodeCommand 2#32 = .ok .readBuffer ∧ decodeCommand 7#32 = .ok .release := by
  decide

/-- A CMD word that R98 makes illegal. -/
def Illegal (v : Word32) : Prop := v.toNat / 256 ≠ 0 ∨ v.toNat % 256 = 0 ∨ 8 ≤ v.toNat % 256

theorem witness_PreChecksInOrder :
    (faulted 2#4 midPair).faultReg ≠ 0#4 ∧ stereoStream.faultReg = 0#4 ∧
      Illegal 0#32 ∧ Illegal 8#32 ∧ Illegal 0xFF#32 ∧ Illegal 0x102#32 ∧ ¬Illegal 1#32 ∧ ¬Illegal 2#32 ∧ ¬Illegal 7#32 ∧
      stereoStream.life = .configured ∧ State.reset.life = .unconfigured ∧
      ((1#32).toNat % 256 = 1 ↔ State.reset.life = .unconfigured) ∧
      ((2#32).toNat % 256 = 1 ↔ stereoStream.life = .unconfigured) := by
  unfold Illegal; decide

theorem witness_RegisterWritesAreKept :
    ∀ r ∈ [1#4, 8#4, 9#4, 15#4], (asked (.write r 7#32) midPair).pending = [.write r 7#32] ∧ r ≠ 0#4 := by decide

theorem witness_RegisterReadsHaveNoEffect :
    ∀ r ∈ [0#4, 1#4, 8#4, 9#4, 10#4, 11#4, 12#4, 15#4], (asked (.read r) midPair).pending = [.read r] := by decide

theorem witness_PresentedSourceReadsBack :
    (asked (.source [0#8, 5#8]) State.reset).pending = [.source [0#8, 5#8]] ∧ [0#8, 5#8].length < 2 ^ 32 ∧
      (asked (.source []) stereoStream).pending = [.source []] ∧ stereoStream.life = .configured ∧
      (∀ bytes, (asked (.source bytes) State.reset).pending = [.source bytes]) ∧
      ∃ bytes : List Byte, 2 ^ 32 ≤ bytes.length :=
  ⟨rfl, by decide, rfl, rfl, fun _ => rfl, List.replicate (2 ^ 32) 0#8, Nat.le_of_eq (List.length_replicate ..).symm⟩

/-- The hypotheses of ConfigureLatchesTheArguments. -/
def Configurable (s : State) (v : Variant) (n : ChannelCount) : Prop :=
  s.faultReg = 0#4 ∧ s.life = .unconfigured ∧ s.args.flags.toNat < 4 ∧ s.args.variant.toNat = v.code ∧
    s.args.channels.toNat = n.count ∧ n ≠ .none ∧ channelsAllowed v n = true ∧
    (s.args.flags.getLsbD 0 = true → v = .msimaMono ∨ v = .msimaStereo) ∧
    (v ∈ [.appleIma, .msimaMono, .msimaStereo, .dk3, .msAdpcm] →
      s.args.blockAlign ≠ 0#32 ∧ geometryOK s.cfg v n s.args.blockAlign.toNat = true) ∧
    s.args.start.toNat ≤ s.args.endPos.toNat

theorem witness_ConfigureLatchesTheArguments :
    Configurable (arguments 6 2 19 0 100 0) .dk3 .stereo ∧ Configurable (arguments 2 1 0 5 5 2) .dvi .mono ∧
      Configurable (arguments 4 1 5 0 0xFFFFFFFF 3) .msimaMono .mono := by
  unfold Configurable; decide

theorem witness_ConfigureReportsTheFirstFailure :
    (arguments 2 1 0 0 0 4).faultReg = 0#4 ∧ (arguments 2 1 0 0 0 4).life = .unconfigured ∧
      [arguments 8 3 0 1 0 4, arguments 8 3 0 1 0 3, arguments 6 0 0 1 0 1, arguments 6 1 0 1 0 1, arguments 6 2 0 1 0 1,
        arguments 6 2 0 1 0 0, arguments 6 2 18 1 0 0, arguments 6 2 19 1 0 0].map
          (fun s => seen report (exec .configure s)) =
        [some (0, 0x100), some (0, 0x200), some (0, 0x300), some (0, 0x400), some (0, 0x100), some (0, 0x500),
          some (0, 0x600), some (0, 0x700)] := by decide

theorem witness_GeometryOfEachVariant :
    defaultConfig.dk3Schedule = .sds ∧ ({ defaultConfig with dk3Schedule := .sd } : Config).dk3Schedule = .sd ∧
      geometryOK defaultConfig .dk3 .stereo 19 = true ∧ geometryOK defaultConfig .dk3 .stereo 16 = false ∧
      geometryOK { defaultConfig with dk3Schedule := .sd } .dk3 .stereo 17 = true ∧
      geometryOK defaultConfig .msAdpcm .stereo 15 = true ∧ geometryOK defaultConfig .msAdpcm .stereo 14 = false ∧
      geometryOK defaultConfig .appleIma .mono 3 = true ∧ geometryOK defaultConfig .appleIma .mono 2 = false ∧
      geometryOK defaultConfig .msimaMono .mono 5 = true ∧ geometryOK defaultConfig .msimaMono .mono 4 = false ∧
      geometryOK defaultConfig .msimaStereo .stereo 16 = true ∧ geometryOK defaultConfig .msimaStereo .stereo 17 = false := by
  decide

/-- The hypotheses of ReadBufferDeliversAndReports. -/
def Readable (s : State) : Prop :=
  s.faultReg = 0#4 ∧ s.life = .configured ∧ s.cursorValid = true ∧ s.args.max.toNat < 2 ^ 31 ∧
    (s.cfg.strictGranule = true → s.args.max.toNat % granule s = 0)

/-- An MS_ADPCM body byte whose codes overflow. -/
def overflowing : State :=
  let s := inside 0 1 (block .msAdpcm .mono 8 [0x66])
  { s with dec := { s.dec with ch0 := msChannel 0 0 256 0 (2 ^ 30) } }

-- A full read, a short read, a read that faults, the largest argument, and a granule of two.
theorem witness_ReadBufferDeliversAndReports :
    Readable (reading 3 stereoStream) ∧ Readable (reading 7 stereoStream) ∧ Readable (reading 4 overflowing) ∧
      Readable (reading (2 ^ 31 - 1) stereoStream) ∧
      Readable (tuned (fun c => { c with strictGranule := true }) (reading 4 stereoStream)) ∧
      seen report (exec .readBuffer (reading 7 stereoStream)) = some (6, 0xE1F) ∧
      seen report (exec .readBuffer (reading 4 overflowing)) = some (0, 0xF31) := by
  unfold Readable; decide

theorem witness_ReadBufferTurnedAway :
    (reading (2 ^ 31) (adrift stereoStream)).faultReg = 0#4 ∧ (reading (2 ^ 31) (adrift stereoStream)).life = .configured ∧
      2 ^ 31 ≤ (reading (2 ^ 31) (adrift stereoStream)).args.max.toNat ∧
      (reading (2 ^ 31 - 1) (adrift stereoStream)).args.max.toNat < 2 ^ 31 ∧
      (reading 0 (adrift stereoStream)).args.max.toNat < 2 ^ 31 ∧ (adrift stereoStream).cursorValid = false ∧
      (tuned (fun c => { c with strictGranule := true }) (reading 3 stereoStream)).cfg.strictGranule = true ∧
      (reading 3 stereoStream).args.max.toNat % 2 ≠ 0 := by decide

theorem witness_ReadLoopTurns :
    0 ≤ ([] : List Sample).length ∧ ([] : List Sample).length < 1 ∧
      (stereoStream.setPend [4#16, 5#16]).dec.pend = 4#16 :: [5#16] ∧
      stereoStream.dec.pend = [] ∧ (faulted 2#4 stereoStream).faultReg ≠ 0#4 ∧ stereoStream.latchEnd.dec.eodLatch = true ∧
      min (inside 3 0 stereoStream).conf.endPos.toNat (inside 3 0 stereoStream).srcLen.toNat ≤
        (inside 3 0 stereoStream).cursor.toNat ∧
      stereoStream.faultReg = 0#4 ∧ stereoStream.dec.eodLatch = false ∧
      (inside 2 0 stereoStream).cursor.toNat < min stereoStream.conf.endPos.toNat stereoStream.srcLen.toNat ∧
      decodeDispatch (inside 2 0 stereoStream).dispatchWord = .ok .dviBody ∧
      (seen id (exec .dviBody (inside 2 0 stereoStream))).isSome = true := by decide

theorem witness_ReadAfterTheEndReturnsNothing :
    (∀ n ∈ [0, 1], ∀ s ∈ [reading n (inside 3 0 stereoStream), reading n stereoStream.latchEnd],
      s.faultReg = 0#4 ∧ s.life = .configured ∧ s.cursorValid = true ∧ s.args.max.toNat < 2 ^ 31 ∧
        s.cfg.strictGranule = false ∧ s.dec.pend = [] ∧
        (s.dec.eodLatch = true ∨ min s.conf.endPos.toNat s.srcLen.toNat ≤ s.cursor.toNat)) := by decide

theorem witness_ChunkingDoesNotMatter :
    ∃ t₁ t₂ t₃, stereoStream.faultReg = 0#4 ∧ stereoStream.life = .configured ∧ stereoStream.cursorValid = true ∧
      stereoStream.cfg.strictGranule = false ∧
      exec .readBuffer (reading 3 stereoStream) = .next t₁ ∧ t₁.faultReg = 0#4 ∧
      exec .readBuffer (reading 2 t₁) = .next t₂ ∧ exec .readBuffer (reading 5 stereoStream) = .next t₃ :=
  ⟨readBufferBody (reading 3 stereoStream), _, _, rfl, rfl, rfl, rfl, rfl, by decide, rfl, rfl⟩

theorem witness_EndOfDataAnswers :
    stereoStream.faultReg = 0#4 ∧ stereoStream.life = .configured ∧ stereoStream.cursorValid = true ∧
      (adrift stereoStream).faultReg = 0#4 ∧ (adrift stereoStream).life = .configured ∧
      (adrift stereoStream).cursorValid = false := by decide

theorem witness_IsStereoAnswersTheChannelCount :
    stereoStream.faultReg = 0#4 ∧ stereoStream.life = .configured ∧ stereoStream.conf.channels.count = 2 ∧
      (block .oki .mono 0 [1]).life = .configured ∧ (block .oki .mono 0 [1]).conf.channels.count ≠ 2 := by decide

theorem witness_GetRateAnswersTheRate : stereoStream.faultReg = 0#4 ∧ stereoStream.life = .configured := by decide

theorem witness_RewindResetsAndSeeks : midPair.faultReg = 0#4 ∧ midPair.life = .configured := by decide

theorem witness_ReleaseBlanksTheBlock : midPair.faultReg = 0#4 ∧ midPair.life = .configured := by decide

theorem witness_RewindRestoresTheConfiguredState :
    let s := arguments 6 2 19 0 100 0
    let c := configureBody s
    let t := channel 9 3 (inside 16 3 c)
    s.faultReg = 0#4 ∧ exec .configure s = .next c ∧ c.result = 1#32 ∧ s.life = .unconfigured ∧ t.conf = c.conf :=
  ⟨rfl, rfl, by decide, rfl, rfl⟩

theorem witness_ReplayAfterRewindIsDeterministic :
    let s := reading 4 stereoStream
    let t := channel 5 7 (inside 2 0 s)
    ∃ s' t', s.faultReg = 0#4 ∧ t.faultReg = 0#4 ∧ s.life = .configured ∧ t.life = .configured ∧
      s.srcChanged = false ∧ t.srcChanged = false ∧ s.conf = t.conf ∧
      s.cfg = t.cfg ∧ s.src = t.src ∧ s.srcLen = t.srcLen ∧ s.args.max = t.args.max ∧
      exec .readBuffer (rewindWith true s) = .next s' ∧ exec .readBuffer (rewindWith true t) = .next t' :=
  ⟨_, _, rfl, rfl, rfl, rfl, rfl, rfl, rfl, rfl, rfl, rfl, rfl, rfl, rfl⟩

theorem witness_ImaCodesKeepTheRanges :
    (channel 0 0 stereoStream).dec.ch0.index.toNat ≤ 88 ∧ (channel 0 88 stereoStream).dec.ch0.index.toNat ≤ 88 := by decide

theorem witness_OkiSamplesAreWidened :
    (-2048 ≤ (0xF800#16).toInt ∧ (0xF800#16).toInt ≤ 2047) ∧ -2048 ≤ (2047#16).toInt ∧ (2047#16).toInt ≤ 2047 := by decide

/-- One MS_ADPCM channel with the given delta. -/
def withDelta (d : Int) : State :=
  let s := block .msAdpcm .mono 8 []
  { s with dec := { s.dec with ch0 := msChannel 0 0 256 0 d } }

-- The largest delta code 6 keeps, and the smallest it does not.
theorem witness_MsAdpcmStepComputes :
    max ((((withDelta (2 ^ 30 - 1)).ch .zero).delta.toInt *
      adaptEntry (withDelta (2 ^ 30 - 1)).cfg (6#4).toInt.natAbs).fdiv 256) (withDelta 0).cfg.minDelta.toInt ≤ 2 ^ 31 - 1 := by
  decide

theorem witness_MsAdpcmStepOverflows :
    2 ^ 31 - 1 < max ((((withDelta (2 ^ 30)).ch .zero).delta.toInt *
      adaptEntry (withDelta (2 ^ 30)).cfg (6#4).toInt.natAbs).fdiv 256) (withDelta 0).cfg.minDelta.toInt := by decide

/-- The hypothesis of CutOffUnitOnlyLatchesTheEnd on the state. -/
def CutOff (i : Instr) (s : State) : Prop :=
  i.isUnit = true ∧ ∃ o ∈ unitOffsets i s, min s.conf.endPos.toNat s.srcLen.toNat ≤ s.cursor.toNat + o

theorem witness_CutOffUnitOnlyLatchesTheEnd :
    CutOff .okiBody (block .oki .mono 0 []) ∧ CutOff .dk3Header (block .dk3 .stereo 19 [1, 2, 3, 4, 5, 6, 7, 8, 9, 10, 11, 12, 13, 14, 15]) ∧
      CutOff .appleImaBody (block .appleIma .stereo 3 [1, 2, 3]) := by
  unfold CutOff; decide

/-- Twenty bytes of coded data for any unit. -/
def roomy (v : Variant) (n : ChannelCount) : State :=
  inside 0 8 (block v n 4 [1, 2, 3, 4, 5, 6, 7, 8, 9, 10, 11, 12, 13, 14, 15, 16, 17, 18, 19, 20])

/-- The hypotheses of UnitsFollowTheUnitTable. -/
def Performable (i : Instr) (s : State) : Prop :=
  i.isUnit = true ∧ s.faultReg = 0#4 ∧
    ∀ o ∈ unitOffsets i s, s.cursor.toNat + o < min s.conf.endPos.toNat s.srcLen.toNat

theorem witness_UnitsFollowTheUnitTable :
    ∀ i ∈ [Instr.okiBody, .imaGenericBody, .dviBody, .appleImaHeader, .appleImaBody, .msimaMonoHeader, .msimaMonoBody,
        .msimaStereoHeader, .msimaStereoBody, .dk3Header, .dk3Body, .msAdpcmHeader, .msAdpcmBody],
      Performable i (roomy .appleIma .mono) ∧ Performable i (roomy .appleIma .stereo) := by
  unfold Performable; decide

/-- The same after the host has changed the source under the decoder. -/
def disturbed (s : State) : State := { s with srcChanged := true }

theorem witness_UnitsOfAChangedSourceAreUnpredictable :
    (disturbed (roomy .msAdpcm .stereo)).srcChanged = true ∧ Performable .msAdpcmHeader (disturbed (roomy .msAdpcm .stereo)) ∧
      Performable .dk3Body (disturbed (roomy .dk3 .stereo)) := by
  unfold Performable; decide

theorem witness_UnitsLeaveTheRestAlone :
    (∃ t, exec .dk3Body (roomy .dk3 .stereo) = .next t) ∧ (∃ t, exec .okiBody (roomy .oki .mono) = .next t) ∧
      (∃ t, exec .msAdpcmBody overflowing = .next t) ∧ Performable .okiBody (roomy .oki .mono) := by
  refine ⟨⟨_, rfl⟩, ⟨_, rfl⟩, ⟨_, rfl⟩, ?_⟩
  unfold Performable
  decide

theorem witness_OkiBodyDecodesOneByte :
    (∀ s ∈ [block .oki .mono 0 [7], block .oki .stereo 0 [7]],
      s.srcChanged = false ∧ s.cursor.toNat < min s.conf.endPos.toNat s.srcLen.toNat) ∧
      (block .oki .stereo 0 [7]).conf.channels = .stereo ∧ (block .oki .stereo 0 [7]).cfg.okiStereo = .perChannel ∧
      (block .oki .mono 0 [7]).conf.channels ≠ .stereo := by decide

theorem witness_StreamBodiesDecodeOneByte :
    (∀ s ∈ [block .dvi .mono 0 [7], block .dvi .stereo 0 [7], inside 2 0 stereoStream],
      s.srcChanged = false ∧ s.cursor.toNat < min s.conf.endPos.toNat s.srcLen.toNat) ∧
      (block .dvi .mono 0 [7]).conf.channels = .mono ∧ (block .dvi .stereo 0 [7]).conf.channels = .stereo := by decide

theorem witness_AppleHeaderLoadsThePreambles :
    (let s := block .appleIma .mono 3 [1, 2];
      s.srcChanged = false ∧ s.conf.channels = .mono ∧ s.cursor.toNat + 1 < min s.conf.endPos.toNat s.srcLen.toNat) ∧
    (let s := block .appleIma .stereo 3 [1, 2, 3, 4, 5];
      s.srcChanged = false ∧ s.conf.channels = .stereo ∧ s.cursor.toNat + 1 < min s.conf.endPos.toNat s.srcLen.toNat ∧
        s.cursor.toNat + s.conf.blockAlign.toNat + 1 < min s.conf.endPos.toNat s.srcLen.toNat) := by decide

theorem witness_AppleBodyDecodesItsBytes :
    (let s := inside 2 1 (block .appleIma .mono 3 [1, 2, 3]);
      s.srcChanged = false ∧ s.conf.channels = .mono ∧ s.cursor.toNat < min s.conf.endPos.toNat s.srcLen.toNat) ∧
    (let s := midPair;
      s.srcChanged = false ∧ s.conf.channels = .stereo ∧ s.cursor.toNat < min s.conf.endPos.toNat s.srcLen.toNat ∧
        s.cursor.toNat + s.conf.blockAlign.toNat < min s.conf.endPos.toNat s.srcLen.toNat) := by decide

theorem witness_MsimaHeadersLoadTheChannels :
    (let s := block .msimaMono .mono 5 [1, 2, 3, 4];
      s.srcChanged = false ∧ s.cursor.toNat + 3 < min s.conf.endPos.toNat s.srcLen.toNat) ∧
    (let s := block .msimaStereo .stereo 16 [1, 2, 3, 4, 5, 6, 7, 8];
      s.srcChanged = false ∧ s.cursor.toNat + 7 < min s.conf.endPos.toNat s.srcLen.toNat) := by decide

theorem witness_MsimaMonoBodyDecodesOneByte :
    let s := inside 4 1 (block .msimaMono .mono 5 [1, 2, 3, 4, 5])
    s.srcChanged = false ∧ s.cursor.toNat < min s.conf.endPos.toNat s.srcLen.toNat := by decide

theorem witness_MsimaStereoBodyDecodesOneGroup :
    let s := inside 0 8 (block .msimaStereo .stereo 16 [1, 2, 3, 4, 5, 6, 7, 8])
    s.srcChanged = false ∧ s.cursor.toNat + 7 < min s.conf.endPos.toNat s.srcLen.toNat := by decide

theorem witness_Dk3HeaderLoadsThePairs :
    let s := block .dk3 .stereo 19 [1, 2, 3, 4, 5, 6, 7, 8, 9, 10, 11, 12, 13, 14, 15, 16]
    s.srcChanged = false ∧ s.cursor.toNat + 15 < min s.conf.endPos.toNat s.srcLen.toNat := by decide

theorem witness_Dk3BodyDecodesItsNibbles :
    (let s := inside 0 3 (block .dk3 .stereo 19 [1, 2]);
      s.srcChanged = false ∧ s.cfg.dk3Schedule = .sds ∧ s.dec.topNib = false ∧
        s.cursor.toNat + 1 < min s.conf.endPos.toNat s.srcLen.toNat) ∧
    (let s := (inside 1 1 (block .dk3 .stereo 19 [1, 2])).setNibble true 1#8;
      s.srcChanged = false ∧ s.cfg.dk3Schedule = .sds ∧ s.dec.topNib = true ∧ s.cursor.toNat < min s.conf.endPos.toNat s.srcLen.toNat) ∧
    (let s := tuned (fun c => { c with dk3Schedule := .sd }) (inside 1 1 (block .dk3 .stereo 18 [1, 2]));
      s.srcChanged = false ∧ s.cfg.dk3Schedule = .sd ∧ s.dec.topNib = false ∧ s.cursor.toNat < min s.conf.endPos.toNat s.srcLen.toNat) := by
  decide

theorem witness_MsAdpcmHeaderLoadsTheSeeds :
    (let s := block .msAdpcm .mono 8 [1, 2, 3, 4, 5, 6, 7];
      s.srcChanged = false ∧ s.conf.channels = .mono ∧ s.cursor.toNat + 6 < min s.conf.endPos.toNat s.srcLen.toNat) ∧
    (let s := block .msAdpcm .stereo 15 [1, 2, 3, 4, 5, 6, 7, 8, 9, 10, 11, 12, 13, 14];
      s.srcChanged = false ∧ s.conf.channels = .stereo ∧ s.cursor.toNat + 13 < min s.conf.endPos.toNat s.srcLen.toNat) := by decide

/-- An MS_ADPCM body byte of two codes 6 before channels with the given deltas. -/
def codedSix (n : ChannelCount) (d0 d1 : Int) : State :=
  let s := inside 0 1 (block .msAdpcm n 15 [0x66])
  { s with dec := { s.dec with ch0 := msChannel 0 0 256 0 d0, ch1 := msChannel 0 0 256 0 d1 } }

theorem witness_MsAdpcmBodyDecodesOneByte :
    (∀ n d0 d1, (codedSix n d0 d1).srcChanged = false) ∧
    (∀ n, (codedSix n 16 16).cursor.toNat < min (codedSix n 16 16).conf.endPos.toNat (codedSix n 16 16).srcLen.toNat) ∧
    (∃ c d, msStepChannel defaultConfig 6#4 (codedSix .mono 16 0).dec.ch0 = some c ∧
      msStepChannel defaultConfig 6#4 c = some d) ∧
    (∃ c, msStepChannel defaultConfig 6#4 (codedSix .mono (2 ^ 30 - 1) 0).dec.ch0 = some c ∧
      msStepChannel defaultConfig 6#4 c = none) ∧
    (∃ c d, msStepChannel defaultConfig 6#4 (codedSix .stereo 16 16).dec.ch0 = some c ∧
      msStepChannel defaultConfig 6#4 (codedSix .stereo 16 16).dec.ch1 = some d) ∧
    (∃ c, msStepChannel defaultConfig 6#4 (codedSix .stereo 16 (2 ^ 30)).dec.ch0 = some c ∧
      msStepChannel defaultConfig 6#4 (codedSix .stereo 16 (2 ^ 30)).dec.ch1 = none) ∧
    msStepChannel defaultConfig 6#4 (codedSix .mono (2 ^ 30) 0).dec.ch0 = none := by
  refine ⟨fun _ _ _ => rfl, fun n => by cases n <;> decide, ⟨_, _, rfl, rfl⟩, ⟨_, rfl, rfl⟩, ⟨_, _, rfl, rfl⟩, ⟨_, rfl, rfl⟩, rfl⟩

theorem witness_InstructionsKeepTheSurroundings :
    ∃ t, exec .readBuffer (reading 3 stereoStream) = .next t := ⟨_, rfl⟩

theorem witness_FaultIsSticky : (faulted 2#4 midPair).faultReg ≠ 0#4 ∧ ∃ t, step (faulted 2#4 midPair) = .next t :=
  ⟨by decide, _, rfl⟩

theorem witness_StepsKeepTheSourceCanonical : SourceCanonical midPair ∧ ∃ t, step midPair = .next t :=
  ⟨by unfold SourceCanonical; decide, _, rfl⟩

theorem witness_StepsKeepPendWithinDepth : PendWithinDepth midPair ∧ ∃ t, step midPair = .next t :=
  ⟨by unfold PendWithinDepth; decide, _, rfl⟩

theorem witness_StepsKeepTheCursorBounded : CursorBounded midPair ∧ ∃ t, step midPair = .next t :=
  ⟨by unfold CursorBounded; decide, _, rfl⟩

theorem witness_StepsKeepTheChannelsInRange : ChannelsInRange midPair ∧ ∃ t, step midPair = .next t :=
  ⟨⟨by show _ ≤ 88; decide, by show _ ≤ 88; decide⟩, _, rfl⟩

theorem witness_StepsKeepTheLifecycleConsistent : LifecycleConsistent midPair ∧ ∃ t, step midPair = .next t :=
  ⟨by show ConfLegal _ _; unfold ConfLegal; decide, _, rfl⟩

theorem witness_StepsKeepTheBlocksOnTheGrid : BlocksOnGrid midPair ∧ ∃ t, step midPair = .next t :=
  ⟨fun _ _ => ⟨by unfold ConfLegal; decide, by decide, trivial, fun _ => ⟨by decide, by decide⟩⟩, _, rfl⟩

theorem witness_StepsKeepStatusCurrent :
    StatusCurrent { midPair with status := 0x015#32 } ∧ ∃ t, step { midPair with status := 0x015#32 } = .next t :=
  ⟨⟨false, false, .none, by decide, fun _ => by decide⟩, _, rfl⟩

theorem witness_StepsKeepTheFaultCodeLegal :
    FaultCodeLegal midPair ∧ FaultCodeLegal (faulted 2#4 midPair) ∧ ∃ t, step midPair = .next t :=
  ⟨.inl rfl, .inr (.inr rfl), _, rfl⟩

end Sys2Proof.Tests
end

section
/-! PROOF. The host's side of the block: what a served request does to the registers, and where the fields of STATUS stand. -/

namespace Sys2Proof.Machine

/-! ### Serving one request -/

/-- The step at a waiting request serves it, with the request taken (log entry 1). -/
theorem step_of_pending {s : State} {q : Request} {rest : List Request} (h : s.pending = q :: rest) :
    step s = serve q { s with pending := rest } := by
  unfold step; rw [h]

/-- A write to CMD performs the command its word decodes to (R110). -/
theorem serve_command {v : Word32} {i : Instr} (h : decodeCommand v = .ok i) (s : State) :
    serve (.write 0#4 v) s = exec i s := by
  simp [serve, commandWord, runCommandWord, h]

/-- A write to another register number is a register write (R37, R42). -/
theorem serve_write {r : BitVec 4} (hr : r ≠ 0#4) (v : Word32) (s : State) :
    serve (.write r v) s = .next (writeReg s r v) := by
  simp [serve, commandWord, hr, serveAccess]

/-- Settles O4: the waiting write is served, and its word runs the decoded command. -/
theorem stepRunsTheDecodedCommand : Obligations.StepRunsTheDecodedCommand := by
  intro s v rest i hp hd
  rw [step_of_pending hp, serve_command hd]

/-! ### Register reads and writes -/

/-- A register number is fixed by its value. -/
theorem regNumber_ne {r r' : BitVec 4} (h : r' ≠ r) : r'.toNat ≠ r.toNat := fun he => h (BitVec.eq_of_toNat_eq he)

/-- A write to a number above the argument registers is ignored (R42). -/
theorem writeReg_of_gt (s : State) {r : BitVec 4} (v : Word32) (h : 8 < r.toNat) : writeReg s r v = s := by
  have := r.isLt
  unfold writeReg
  interval_cases r.toNat <;> rfl

/-- An argument register reads back what was written to it (R37). -/
theorem readReg_writeReg_same (s : State) {r : BitVec 4} (v : Word32) (h1 : 1 ≤ r.toNat) (h8 : r.toNat ≤ 8) :
    readReg (writeReg s r v) r = v := by
  unfold writeReg readReg
  interval_cases r.toNat <;> rfl

/-- A write to one register number changes no other (R37). -/
theorem readReg_writeReg_ne (s : State) {r r' : BitVec 4} (v : Word32) (h : r' ≠ r) :
    readReg (writeReg s r v) r' = readReg s r' := by
  have hn := regNumber_ne h
  unfold writeReg
  split
  case h_9 => rfl
  all_goals
    rename_i he
    rw [he] at hn
    unfold readReg
    split <;> simp_all

/-- Settles O6: every register number other than CMD, by whether the number read is the written one. -/
theorem registerWritesAreKept : Obligations.RegisterWritesAreKept := by
  intro s r v rest hp hr
  refine ⟨writeReg { s with pending := rest } r v, ?_, writeReg_frame _ r v, fun r' => ?_⟩
  · rw [step_of_pending hp, serve_write hr]
  · by_cases he : r' = r
    · subst he
      by_cases hle : r'.toNat ≤ 8
      · have h0 : r'.toNat ≠ 0 := regNumber_ne hr
        rw [if_pos ⟨rfl, hle⟩, readReg_writeReg_same _ v (by omega) hle]
      · rw [if_neg fun h => hle h.2, writeReg_of_gt _ v (by omega)]; rfl
    · rw [if_neg fun h => he h.1, readReg_writeReg_ne _ v he]; rfl

/-- The eight argument registers in the order of their numbers (R35, R37). -/
theorem readReg_argument (s : State) {r : BitVec 4} (h1 : 1 ≤ r.toNat) (h8 : r.toNat ≤ 8) :
    readReg s r = [s.args.variant, s.args.channels, s.args.rate, s.args.blockAlign, s.args.start, s.args.endPos,
      s.args.flags, s.args.max].getD (r.toNat - 1) 0#32 := by
  unfold readReg
  interval_cases r.toNat <;> rfl

/-- The reserved numbers read 0 (R42). -/
theorem readReg_reserved (s : State) {r : BitVec 4} (h : 12 ≤ r.toNat) : readReg s r = 0#32 := by
  have := r.isLt
  unfold readReg
  interval_cases r.toNat <;> rfl

/-- Settles O7: the answer is `readReg`, number by number. -/
theorem registerReadsHaveNoEffect : Obligations.RegisterReadsHaveNoEffect := by
  intro s r rest hp
  refine ⟨readReg s r, step_of_pending hp, ?cmd, readReg_argument s, ?result, ?status, ?fault, readReg_reserved s⟩
  case cmd | result | status => rintro rfl; rfl
  case fault =>
    rintro rfl
    exact BitVec.toNat_setWidth_of_le (by decide)

/-! ### The STATUS word -/

/-- A word put above another counts by that one's width. -/
theorem toNat_append_add {m n : Nat} (x : BitVec m) (y : BitVec n) : (x ++ y).toNat = x.toNat * 2 ^ n + y.toNat := by
  rw [BitVec.toNat_append, ← Nat.shiftLeft_add_eq_or_of_lt y.isLt, Nat.shiftLeft_eq]

/-- A STATUS word as a number: each field times the value of its place (R40). -/
theorem statusWord_toNat (c e st sh v f : Bool) (err : BitVec 4) :
    (statusWord c e st sh v f err).toNat =
      256 * err.toNat + 32 * f.toNat + 16 * v.toNat + 8 * sh.toNat + 4 * st.toNat + 2 * e.toNat + c.toNat := by
  simp only [statusWord, toNat_append_add, BitVec.toNat_ofNat, BitVec.toNat_ofBool]
  omega

/-- The flags of a STATUS word stand at its bits 0 to 5 (R40). -/
theorem statusWord_flags (c e st sh v f : Bool) (err : BitVec 4) :
    let w := statusWord c e st sh v f err
    w.getLsbD 0 = c ∧ w.getLsbD 1 = e ∧ w.getLsbD 2 = st ∧ w.getLsbD 3 = sh ∧ w.getLsbD 4 = v ∧ w.getLsbD 5 = f := by
  simp only [BitVec.getLsbD, statusWord_toNat, Nat.testBit_eq_decide_div_mod_eq]
  have bit : ∀ (n : Nat) (b : Bool), n % 2 = b.toNat → decide (n % 2 = 1) = b := by
    rintro n b h; rw [h]; cases b <;> rfl
  have := c.toNat_le; have := e.toNat_le; have := st.toNat_le; have := sh.toNat_le; have := v.toNat_le; have := f.toNat_le
  refine ⟨bit _ _ ?_, bit _ _ ?_, bit _ _ ?_, bit _ _ ?_, bit _ _ ?_, bit _ _ ?_⟩ <;> omega

/-- ERR stands from bit 8 on, with nothing above it, and bits 7:6 are 0 (R40). -/
theorem statusWord_err (c e st sh v f : Bool) (err : BitVec 4) :
    let w := statusWord c e st sh v f err
    w.toNat / 64 % 4 = 0 ∧ w.toNat / 256 = err.toNat := by
  simp only [statusWord_toNat]
  have := c.toNat_le; have := e.toNat_le; have := st.toNat_le; have := sh.toNat_le; have := v.toNat_le; have := f.toNat_le
  omega

/-- Settles O49: the flags bit by bit, then ERR and the zeros around it. -/
theorem statusBitsStandWhereTheTableSays : Obligations.StatusBitsStandWhereTheTableSays := by
  intro s short err
  have hconf : s.isConfigured = true ↔ s.life = .configured := decide_eq_true_iff
  obtain ⟨h0, h1, h2, h3, h4, h5⟩ := statusWord_flags s.isConfigured (s.isConfigured && s.cursorValid && s.endOfData)
    (s.isConfigured && s.isStereo) short (s.isConfigured && s.cursorValid) s.isFaulted err.code
  refine ⟨?_, ?_, ?_, h3, ?_, ?_, statusWord_err ..⟩
  · exact h0 ▸ hconf
  · exact h1 ▸ by simp [hconf, and_assoc]
  · exact h2 ▸ by simp [hconf, State.isStereo_iff]
  · exact h4 ▸ by simp [hconf]
  · exact h5 ▸ s.isFaulted_eq_true_iff

end Sys2Proof.Machine
end

section
/-! PROOF. What every instruction and every step keeps, by the shapes a command can have: the surroundings, a raised fault, STATUS
and the invariants of the decoder, whose induction over a step is packaged once (`StepInvariant`). -/

namespace Sys2Proof.Machine

/-! ### What no instruction changes -/

theorem exec_unit_frame {i : Instr} (hi : i.isUnit = true) {s t : State} (h : exec i s = .next t) : EngineFrame s t := by
  cases (exec_unit hi s).symm.trans h
  exact runUnit_frame i s

/-- MSADPCM_STEP updates its channel, or raises DELTA_OVERFLOW (R230, R232). -/
theorem execMsAdpcmStep_frame {k : Chan} {code : Code} {s t : State} (h : execMsAdpcmStep k code s = .next t) :
    EngineFrame s t := by
  unfold execMsAdpcmStep at h
  split at h <;> cases h
  · exact EngineFrame.of_outside (s.raise_outside _)
  · exact EngineFrame.of_outside (s.setCh_outside k _)

/-- An instruction has the effect of a command, or keeps all that surrounds the engine. -/
theorem exec_cases {i : Instr} {s t : State} (h : exec i s = .next t) : CommandEffect s t ∨ EngineFrame s t := by
  cases i with
  | configure | readBuffer | endOfData | isStereo | getRate | rewind | release => exact .inl (exec_command_effect rfl h)
  | okiBody | imaGenericBody | dviBody | appleImaHeader | appleImaBody | msimaMonoHeader | msimaMonoBody
  | msimaStereoHeader | msimaStereoBody | dk3Header | dk3Body | msAdpcmHeader | msAdpcmBody =>
    exact .inr (exec_unit_frame rfl h)
  | imaStep k code => cases h; exact .inr (EngineFrame.of_outside (s.imaStep_outside k code))
  | okiStep k code => cases h; exact .inr (EngineFrame.of_outside (s.okiStep_outside k code))
  | msAdpcmStep k code => exact .inr (execMsAdpcmStep_frame h)

/-! The frame of a unit, field by field. -/

theorem EngineFrame.life_eq {s t : State} (h : EngineFrame s t) : t.life = s.life := by rw [h.1]
theorem EngineFrame.conf_eq {s t : State} (h : EngineFrame s t) : t.conf = s.conf := by rw [h.1]
theorem EngineFrame.cfg_eq {s t : State} (h : EngineFrame s t) : t.cfg = s.cfg := by rw [h.1]
theorem EngineFrame.limit_eq {s t : State} (h : EngineFrame s t) : t.limit = s.limit := by rw [h.1]; rfl

theorem SurroundingsKept.refl (s : State) : SurroundingsKept s s := ⟨rfl, rfl, rfl, rfl, rfl, rfl, rfl⟩

theorem EngineFrame.surroundingsKept {s t : State} (h : EngineFrame s t) : SurroundingsKept s t := by
  rw [h.1]; exact SurroundingsKept.refl s

/-- The end of a read changes none of the surroundings. -/
theorem SurroundingsKept.finishRead {s t : State} (h : SurroundingsKept s t) (max : Nat) (out : List Sample) :
    SurroundingsKept s (finishRead max out t) := by
  obtain ⟨short, err, e⟩ := finishRead_cases max out t
  rw [e]; exact h

theorem CommandEffect.surroundingsKept {s t : State} (h : CommandEffect s t) : SurroundingsKept s t := by
  cases h with
  | report | draw | configured | released => exact SurroundingsKept.refl s
  | undefinedRead => exact (EngineFrame.of_outside (s.raise_outside _)).surroundingsKept.finishRead _ _
  | read => exact (readLoop_frame _ _ _ s).surroundingsKept.finishRead _ _
  | rewound ok => cases ok <;> exact SurroundingsKept.refl s

/-- Settles O47: commands by their shapes, units and primitives by their frame. -/
theorem instructionsKeepTheSurroundings : Obligations.InstructionsKeepTheSurroundings := by
  intro i s t h
  have hk : SurroundingsKept s t := (exec_cases h).elim (·.surroundingsKept) (·.surroundingsKept)
  have ⟨_, _, hsrc, _⟩ := hk
  exact ⟨hk, fun a => by rw [hsrc]⟩

/-! ### A raised fault -/

/-- A command at a faulted block leaves FAULTREG alone: the one command that can raise a fault is refused there (R256). -/
theorem CommandEffect.faultReg_eq {s t : State} (h : CommandEffect s t) (hf : s.faultReg ≠ 0#4) :
    t.faultReg = s.faultReg := by
  cases h with
  | report | draw | configured | released => rfl
  | undefinedRead _ h0 | read _ h0 => exact absurd h0 hf
  | rewound ok => cases ok <;> rfl

/-- Settles O48: no request other than a command touches FAULTREG. -/
theorem faultIsSticky : Obligations.FaultIsSticky := by
  intro s t hf h
  rcases step_cases h with ⟨-, rfl⟩ | ⟨q, rest, -, ⟨v, -, he⟩ | ⟨r, v, -, rfl⟩ | ⟨r, -, rfl⟩ | ⟨bytes, -, -, rfl⟩⟩
  · rfl
  · exact he.faultReg_eq hf
  · rw [writeReg_frame]
  · rfl
  · rfl

/-! ### The source request -/

/-- The state a source request leaves (R62, R286). -/
def State.withSource (s : State) (bytes : List Byte) : State :=
  { s with
    src := srcOfBytes 0 bytes
    srcLen := BitVec.ofNat 32 bytes.length
    srcChanged := s.srcChanged || decide (s.life = .configured) &&
      s.differs (srcOfBytes 0 bytes) (BitVec.ofNat 32 bytes.length) }

/-- A host that has kept its duty has not changed L under the decoder (R286). -/
theorem State.withSource_kept {s : State} {bytes : List Byte} (h : (s.withSource bytes).srcChanged = false) :
    s.srcChanged = false ∧ (s.life = .configured → (s.withSource bytes).limit = s.limit) := by
  simp only [State.withSource, State.differs, Bool.or_eq_false_iff, Bool.and_eq_false_imp, decide_eq_true_eq,
    decide_eq_false_iff_not, not_not] at h
  obtain ⟨hs, hd⟩ := h
  exact ⟨hs, fun hl => State.limit_congr rfl (hd hl).2⟩

/-! ### STATUS -/

/-- The end of a command rewrites STATUS (R128). -/
theorem statusCurrent_finish (s : State) (r : Word32) (short : Bool) (err : Err) : StatusCurrent (s.finish r short err) :=
  ⟨short, _, err, rfl, fun _ => rfl⟩

/-- Every command ends with the STATUS update (R110). -/
theorem CommandEffect.statusCurrent {s t : State} (h : CommandEffect s t) : StatusCurrent t := by
  cases h with
  | report | draw | configured | released => exact statusCurrent_finish ..
  | undefinedRead | read =>
    obtain ⟨short, err, e⟩ := finishRead_cases ..
    rw [e]; exact statusCurrent_finish ..
  | rewound ok => cases ok <;> exact statusCurrent_finish ..

/-- A source request does not rewrite STATUS; only EOD can lag behind, where the host breaks its duty (R286). -/
theorem StatusCurrent.withSource {s : State} (h : StatusCurrent s) (bytes : List Byte) :
    StatusCurrent (s.withSource bytes) := by
  obtain ⟨short, eod, err, hw, heod⟩ := h
  refine ⟨short, eod, err, hw, fun hc => ?_⟩
  obtain ⟨hs, hlimit⟩ := State.withSource_kept hc
  rw [heod hs]
  by_cases hl : s.life = .configured
  · have hend : (s.withSource bytes).endOfData = s.endOfData := by
      simp only [State.endOfData, State.atEnd, hlimit hl]; rfl
    rw [hend]; rfl
  · have hn : s.isConfigured = false := decide_eq_false hl
    have hn' : (s.withSource bytes).isConfigured = false := hn
    simp only [hn, hn', Bool.false_and]

/-- Settles O58: a command rewrites STATUS, a register access changes nothing it shows, and a source request at most EOD. -/
theorem stepsKeepStatusCurrent : Obligations.StepsKeepStatusCurrent := by
  intro s t hs h
  rcases step_cases h with ⟨-, rfl⟩ | ⟨q, rest, -, ⟨v, -, he⟩ | ⟨r, v, -, rfl⟩ | ⟨r, -, rfl⟩ | ⟨bytes, -, -, rfl⟩⟩
  · exact hs
  · exact he.statusCurrent
  · rw [writeReg_frame]; exact hs
  · exact hs
  · exact hs.withSource bytes

/-! ### Invariants of the decoder -/

/-- A state without the registers the host sees, its requests and the record of the samples delivered. -/
def State.bare (s : State) : State :=
  { s with
    args := ArgRegs.zero, result := 0#32, status := 0#32, pending := [], readData := 0#32
    samplePort := [], hostBuf := [], draws := 0 }

theorem finishRead_bare (max : Nat) (out : List Sample) (s : State) : (finishRead max out s).bare = s.bare := by
  obtain ⟨short, err, e⟩ := finishRead_cases max out s
  rw [e]; rfl

/-- The induction over a step, packaged: a property of what `State.bare` leaves is kept by every step if each of the few changes
of that part keeps it. -/
structure StepInvariant (P : State → Prop) : Prop where
  /-- The property does not read the host's registers, its requests or the samples delivered. -/
  bare : ∀ s, P s.bare ↔ P s
  /-- A CONFIGURE that passes its checks (R112). -/
  latch : ∀ s cf, s.life = .unconfigured → configureCheck s.cfg s.args = .ok cf → P s → P (s.latch cf)
  /-- READ_BUFFER at an undefined position (R257). -/
  undefinedRead : ∀ s, s.life = .configured → P s → P (s.raise .positionUndefined)
  /-- ReadLoop delivers a sample (R121). -/
  pop : ∀ s x rest, s.life = .configured → s.dec.pend = x :: rest → P s → P (s.setPend rest)
  /-- ReadLoop performs a unit (R121). -/
  unit : ∀ s, s.life = .configured → s.dec.pend = [] → s.isFaulted = false → s.atEnd = false → P s → P (dispatchUnit s)
  /-- REWIND whose seek succeeds (R118). -/
  rewind : ∀ s, s.life = .configured → P s → P { s.resetDecoder with cursor := s.conf.start, cursorValid := true }
  /-- REWIND whose seek fails (R118). -/
  seekFailed : ∀ s, s.life = .configured → P s → P { s.resetDecoder with cursorValid := false }
  /-- RELEASE (R119). -/
  release : ∀ s, P s → P { s.resetDecoder with
    life := .unconfigured, conf := ActiveConf.zero, cursor := 0#32, cursorValid := false }
  /-- The host sets the source (R62). -/
  source : ∀ s bytes, bytes.length < 2 ^ 32 → P s → P (s.withSource bytes)

namespace StepInvariant

variable {P : State → Prop}

/-- States that agree on what the property reads have it together. -/
theorem of_bare (inv : StepInvariant P) {s t : State} (hs : P s) (h : t.bare = s.bare) : P t :=
  (inv.bare t).1 (h ▸ (inv.bare s).2 hs)

/-- ReadLoop runs while configured, and its units leave LIFE alone. -/
theorem readSamples (inv : StepInvariant P) (max : Nat) {s : State} (hl : s.life = .configured) (hs : P s) :
    P (readSamples max s).2 :=
  (readLoop_induct (P := fun u => u.life = .configured ∧ P u)
    (fun u x rest hp ⟨hl, hu⟩ => ⟨hl, inv.pop u x rest hl hp hu⟩)
    (fun u hp hf he ⟨hl, hu⟩ => ⟨(dispatchUnit_frame u).life_eq.trans hl, inv.unit u hl hp hf he hu⟩) _ _ _ s ⟨hl, hs⟩).2

theorem command (inv : StepInvariant P) {s t : State} (h : CommandEffect s t) (hs : P s) : P t := by
  cases h with
  | report | draw => exact inv.of_bare hs rfl
  | configured cf hl hc => exact inv.of_bare (inv.latch s cf hl hc hs) rfl
  | undefinedRead max _ hl => exact inv.of_bare (inv.undefinedRead s hl hs) (finishRead_bare ..)
  | read max _ hl => exact inv.of_bare (inv.readSamples max hl hs) (finishRead_bare ..)
  | rewound ok hl =>
    cases ok
    · exact inv.of_bare (inv.seekFailed s.drawn hl (inv.of_bare hs rfl)) rfl
    · exact inv.of_bare (inv.rewind s.drawn hl (inv.of_bare hs rfl)) rfl
  | released => exact inv.of_bare (inv.release s hs) rfl

theorem step (inv : StepInvariant P) (s t : State) (hs : P s) (h : step s = .next t) : P t := by
  rcases step_cases h with ⟨-, rfl⟩ | ⟨q, rest, -, h⟩
  · exact hs
  have taken : P { s with pending := rest } := inv.of_bare hs rfl
  rcases h with ⟨v, -, he⟩ | ⟨r, v, -, rfl⟩ | ⟨r, -, rfl⟩ | ⟨bytes, -, hb, rfl⟩
  · exact inv.command he taken
  · rw [writeReg_frame]; exact inv.of_bare hs rfl
  · exact inv.of_bare hs rfl
  · exact inv.source _ bytes hb taken

end StepInvariant

/-! ### The lifecycle -/

/-- A legal A_CHANNELS is 1 or 2 (R103). -/
theorem argChannels_ne_none {v : Word32} {n : ChannelCount} (h : argChannels v = some n) : n ≠ .none := by
  unfold argChannels at h
  split at h <;> cases h <;> decide

/-- The checks of CONFIGURE let through legal configurations only (R112, R113). -/
theorem configureCheck_legal {c : Config} {a : ArgRegs} {cf : ActiveConf} (h : configureCheck c a = .ok cf) :
    ConfLegal c cf := by
  unfold configureCheck at h
  iterate 8 (split at h; · cases h)
  rename_i v _ n hn hallowed hinvert hzero hgeometry hrange
  cases h
  simp only [Bool.not_eq_true', Bool.and_eq_true, decide_eq_true_eq, not_and, Bool.not_eq_false]
    at hallowed hinvert hzero hgeometry
  exact ⟨argChannels_ne_none hn, hallowed, hinvert, fun hb => ⟨hzero hb, hgeometry hb⟩, Nat.not_lt.1 hrange⟩

/-- While configured, only the active configuration and the parameters matter to the lifecycle. -/
theorem LifecycleConsistent.of_configured {s t : State} (hs : LifecycleConsistent s) (hl : s.life = .configured)
    (ht : t.life = s.life) (hc : t.conf = s.conf) (hp : t.cfg = s.cfg) : LifecycleConsistent t := by
  unfold LifecycleConsistent at hs ⊢
  rw [ht, hl, hc, hp]; rwa [hl] at hs

/-- The commands that run only while configured keep the configuration; CONFIGURE latches a legal one and RELEASE blanks it. -/
theorem lifecycleConsistent_stepInvariant : StepInvariant LifecycleConsistent where
  bare _ := Iff.rfl
  latch _ _ _ hc _ := configureCheck_legal hc
  undefinedRead _ hl hs := hs.of_configured hl rfl rfl rfl
  pop _ _ _ hl _ hs := hs.of_configured hl rfl rfl rfl
  unit s hl _ _ _ hs :=
    have frame := dispatchUnit_frame s
    hs.of_configured hl frame.life_eq frame.conf_eq frame.cfg_eq
  rewind _ hl hs := hs.of_configured hl rfl rfl rfl
  seekFailed _ hl hs := hs.of_configured hl rfl rfl rfl
  release _ _ := ⟨rfl, rfl, rfl, rfl⟩
  source _ _ _ hs := hs

/-- Settles O56: CONFIGURE latches a legal configuration, RELEASE blanks it, and nothing else touches it. -/
theorem stepsKeepTheLifecycleConsistent : Obligations.StepsKeepTheLifecycleConsistent :=
  lifecycleConsistent_stepInvariant.step

/-! ### Power-on -/

/-- Settles O50: the clauses are the fields of `State.reset`. -/
theorem resetIsThePowerOnColumn : Obligations.ResetIsThePowerOnColumn :=
  ⟨rfl, rfl, rfl, rfl, rfl, rfl, rfl, rfl, rfl⟩

/-- At power-on every channel record is zero, which every variant's ranges hold. -/
theorem channelInRange_zero (c : Config) (v : Variant) : ChannelInRange c v Channel.zero := by
  unfold ChannelInRange
  cases v.family
  case ima => exact Nat.zero_le 88
  case oki => exact ⟨by decide, by decide, Nat.zero_le _⟩
  case msAdpcm => exact Nat.succ_pos _

/-- Settles O51: an unconfigured block with nothing in it. -/
theorem invariantsHoldAtReset : Obligations.InvariantsHoldAtReset := by
  have unconfigured : State.reset.life ≠ .configured := by decide
  refine ⟨rfl, ?pend, fun _ hl => absurd hl unconfigured, ⟨channelInRange_zero _ _, channelInRange_zero _ _⟩,
    ⟨rfl, rfl, rfl, rfl⟩, fun hl => absurd hl unconfigured, .inl rfl, ?status⟩
  case pend => exact Nat.zero_le 16
  case status => exact ⟨false, false, .none, by decide, fun _ => by decide⟩

end Sys2Proof.Machine
end

section
/-! PROOF. How far a unit moves CURSOR and how many samples it pushes (30_encoding.md R96), and from it the bounds on PEND and
CURSOR that every step keeps. -/

namespace Sys2Proof.Machine

/-! ### Moves -/

/-- CURSOR moved on by `a` bytes, and `n` samples pushed. -/
def Moved (a n : Nat) (s t : State) : Prop :=
  t.cursor = BitVec.ofNat 32 (s.cursor.toNat + a) ∧ t.dec.pend.length = s.dec.pend.length + n

/-- A change of neither CURSOR nor PEND. -/
theorem Moved.of_eq {s t : State} (hc : t.cursor = s.cursor) (hp : t.dec.pend = s.dec.pend) : Moved 0 0 s t :=
  ⟨by simp [hc], by simp [hp]⟩

/-- Moves add up. -/
theorem Moved.trans {a b n m a' n' : Nat} {s t u : State} (h : Moved a n s t) (h' : Moved b m t u)
    (ha : a + b = a' := by rfl) (hn : n + m = n' := by rfl) : Moved a' n' s u := by
  obtain ⟨hc, hp⟩ := h
  obtain ⟨hc', hp'⟩ := h'
  refine ⟨?_, by omega⟩
  rw [hc', hc, ← ha, ← Nat.add_assoc]
  exact BitVec.eq_of_toNat_eq (by simp)

section Operations
variable (s : State) (k : Chan) (c : Code)

theorem State.advance_moved (n : Nat) : Moved n 0 s (s.advance n) := ⟨rfl, rfl⟩
theorem State.setCh_moved (ch : Channel) : Moved 0 0 s (s.setCh k ch) := Moved.of_eq (s.setCh_cursor k ch) (s.setCh_pend k ch)
theorem State.emit_moved (xs : List Sample) : Moved 0 xs.length s (s.emit xs) := ⟨by simp, by simp⟩
theorem State.consume_moved (n : Nat) : Moved 0 0 s (s.consume n) := Moved.of_eq rfl rfl
theorem State.beginBlock_moved (n : Nat) : Moved 0 0 s (s.beginBlock n) := Moved.of_eq rfl rfl
theorem State.setNibble_moved (t : Bool) (b : Byte) : Moved 0 0 s (s.setNibble t b) := Moved.of_eq rfl rfl

theorem State.imaEmit_moved : Moved 0 1 s (s.imaEmit k c) := (s.setCh_moved k _).trans (State.emit_moved _ [_])
theorem State.okiEmit_moved : Moved 0 1 s (s.okiEmit k c) := (s.setCh_moved k _).trans (State.emit_moved _ [_])
theorem State.msimaEmit_moved : Moved 0 1 s (s.msimaEmit k c) := (s.setCh_moved k _).trans (State.emit_moved _ [_])

/-- Both channels loaded, samples pushed, and the bytes passed. -/
theorem State.loadBoth_moved (c0 c1 : Channel) (xs : List Sample) (n : Nat) :
    Moved n xs.length s ((((s.setCh .zero c0).setCh .one c1).emit xs).advance n) :=
  (((s.setCh_moved .zero c0).trans (State.setCh_moved _ .one c1)).trans (State.emit_moved _ xs)).trans
    (State.advance_moved _ n) (by simp) (by simp)

theorem State.msEmit_moved {t : State} (h : s.msEmit k c = some t) : Moved 0 1 s t := by
  unfold State.msEmit at h
  split at h
  · cases h
  · cases h; exact (s.setCh_moved k _).trans (State.emit_moved _ [_])

end Operations

/-! ### The moves of each rule -/

section Rules
variable (s : State)

theorem imaStreamBody_moved (o : NibbleOrder) : Moved 1 2 s (imaStreamBody o s) :=
  ((s.advance_moved 1).trans (State.imaEmit_moved ..)).trans (State.imaEmit_moved ..)

theorem appleLoad_moved : Moved 0 0 s (appleLoad s) := by
  unfold appleLoad
  split
  · exact (s.setCh_moved ..).trans (State.setCh_moved ..)
  · exact s.setCh_moved ..

theorem appleMonoBody_moved : Moved 1 2 s (appleMonoBody s) :=
  (((s.imaEmit_moved ..).trans (State.imaEmit_moved ..)).trans (State.advance_moved _ 1)).trans (State.consume_moved _ 1)

theorem appleSkip_moved : Moved (if s.dec.blockRem = 0#32 then s.conf.blockAlign.toNat else 0) 0 s (appleSkip s) := by
  unfold appleSkip
  split
  · exact s.advance_moved _
  · exact Moved.of_eq rfl rfl

theorem appleStereoBody_moved :
    Moved (if s.dec.blockRem - 1#32 = 0#32 then 1 + s.conf.blockAlign.toNat else 1) 4 s (appleStereoBody s) := by
  refine ((((((s.imaEmit_moved ..).trans (State.imaEmit_moved ..)).trans (State.imaEmit_moved ..)).trans
    (State.imaEmit_moved ..)).trans (State.advance_moved _ 1)).trans (State.consume_moved _ 1)).trans (appleSkip_moved _) ?_
  change 1 + (if s.dec.blockRem - 1#32 = 0#32 then s.conf.blockAlign.toNat else 0) = _
  split <;> rfl

theorem appleBody_moved :
    Moved (unitAdvance .appleImaBody s) (unitSamples .appleImaBody s) s
      (if s.isStereo then appleStereoBody s else appleMonoBody s) := by
  unfold unitAdvance unitSamples State.unitChannels
  cases s.isStereo
  · exact appleMonoBody_moved s
  · simpa using appleStereoBody_moved s

theorem headerSamples_length (cfg : Config) (xs : List Sample) :
    (headerSamples cfg xs).length = if cfg.msimaEmitHeaderSample then xs.length else 0 := by
  unfold headerSamples; split <;> rfl

/-- NEXTNIB() reads a byte when no nibble of the last one is left (R211). -/
theorem nextNibState_moved : Moved (if s.dec.topNib then 0 else 1) 0 s (nextNibState s) := by
  unfold nextNibState
  split
  · exact s.setNibble_moved ..
  · exact ((s.setNibble_moved ..).trans (State.advance_moved _ 1)).trans (State.consume_moved _ 1)

theorem nextNibState_topNib : (nextNibState s).dec.topNib = !s.dec.topNib := by
  unfold nextNibState
  cases s.dec.topNib <;> rfl

theorem State.dk3Step_moved (k : Chan) : Moved (if s.dec.topNib then 0 else 1) 0 s (s.dk3Step k) :=
  (nextNibState_moved s).trans (State.setCh_moved ..)

@[simp] theorem State.dk3Step_topNib (k : Chan) : (s.dk3Step k).dec.topNib = !s.dec.topNib :=
  (State.setCh_topNib ..).trans (nextNibState_topNib s)

theorem State.dk3Emit_moved : Moved 0 2 s s.dk3Emit := s.emit_moved [_, _]

theorem dk3SdsBody_moved : Moved (if s.dec.topNib then 1 else 2) 4 s (dk3SdsBody s) := by
  refine ((((s.dk3Step_moved .zero).trans (State.dk3Step_moved _ .one)).trans (State.dk3Emit_moved _)).trans
    (State.dk3Step_moved _ .zero)).trans (State.dk3Emit_moved _) ?_
  rw [show ((s.dk3Step .zero).dk3Step .one).dk3Emit.dec.topNib = s.dec.topNib by simp [State.dk3Emit]]
  cases h : s.dec.topNib <;> simp [h]

theorem dk3SdBody_moved : Moved 1 2 s (dk3SdBody s) := by
  refine ((s.dk3Step_moved .zero).trans (State.dk3Step_moved _ .one)).trans (State.dk3Emit_moved _) ?_
  cases h : s.dec.topNib <;> simp [h]

theorem msHeader_moved : Moved 0 (2 * s.unitChannels) s (if s.isStereo then msStereoHeader s else msMonoHeader s) := by
  unfold State.unitChannels
  split
  · exact ((s.setCh_moved ..).trans (State.setCh_moved ..)).trans (State.emit_moved _ [_, _, _, _])
  · exact (s.setCh_moved ..).trans (State.emit_moved _ [_, _])

theorem msBodyCodes_moved {t : State} (h : msBodyCodes s = some t) : Moved 0 2 s t := by
  simp only [msBodyCodes] at h
  split at h
  · cases h
  · rename_i u hu
    exact (s.msEmit_moved _ _ hu).trans (u.msEmit_moved _ _ h)

end Rules

/-! ### The moves of each unit -/

/-- The moves of the unit `i` from `s`: none, when it is cut off (R123) or faults (R232); or its row's, with all its bytes below
LIMIT (R96, R121). -/
def UnitMoved (i : Instr) (s t : State) : Prop :=
  Moved 0 0 s t ∨ (∀ o ∈ unitOffsets i s, s.cursor.toNat + o < s.limit) ∧ Moved (unitAdvance i s) (unitSamples i s) s t

/-- A unit moves as its rule does, whatever bytes the rule reads. -/
theorem performUnit_moved {i : Instr} {offs : List Nat} {body : State → State} (s : State) (ho : offs = unitOffsets i s)
    (h : ∀ src, Moved 0 0 s (body { s with src := src }) ∨
      Moved (unitAdvance i s) (unitSamples i s) s (body { s with src := src })) :
    UnitMoved i s (performUnit offs body s) := by
  subst ho
  rcases performUnit_cases (unitOffsets i s) body s with ⟨ha, -, e⟩ | ⟨ha, -, e⟩ | ⟨-, e⟩ <;> rw [e]
  · exact (h s.src).imp_right fun hm => ⟨State.available_iff.1 ha, hm⟩
  · have free {a n : Nat} {t : State} (hm : Moved a n s t) : Moved a n s (s.unpredictable t) :=
      ⟨hm.1, by have := hm.2; simp; omega⟩
    exact (h (s.freeSource _)).imp free fun hm => ⟨State.available_iff.1 ha, free hm⟩
  · exact .inl (Moved.of_eq rfl rfl)

theorem runUnit_moved (i : Instr) (s : State) : UnitMoved i s (runUnit i s) := by
  cases i with
  | okiBody =>
    unfold runUnit okiBody
    refine performUnit_moved s rfl fun src => .inr ?_
    exact ((State.advance_moved { s with src := src } 1).trans (State.okiEmit_moved ..)).trans (State.okiEmit_moved ..)
  | imaGenericBody =>
    unfold runUnit imaGenericBody
    exact performUnit_moved s rfl fun src => .inr (imaStreamBody_moved { s with src := src } _)
  | dviBody =>
    unfold runUnit dviBody
    exact performUnit_moved s rfl fun src => .inr (imaStreamBody_moved { s with src := src } _)
  | appleImaHeader =>
    unfold runUnit appleImaHeader
    refine performUnit_moved s rfl fun src => .inr ?_
    exact ((appleLoad_moved { s with src := src }).trans (State.advance_moved _ 2)).trans (State.beginBlock_moved _ 2)
  | appleImaBody =>
    unfold runUnit appleImaBody
    exact performUnit_moved s rfl fun src => .inr (appleBody_moved { s with src := src })
  | msimaMonoHeader =>
    unfold runUnit msimaMonoHeader
    refine performUnit_moved s (by rfl) fun src => .inr ⟨rfl, ?_⟩
    exact List.length_append.trans (congrArg _ (headerSamples_length _ [_]))
  | msimaMonoBody =>
    unfold runUnit msimaMonoBody
    refine performUnit_moved s rfl fun src => .inr ?_
    exact (((State.msimaEmit_moved { s with src := src } ..).trans (State.msimaEmit_moved ..)).trans
      (State.advance_moved _ 1)).trans (State.consume_moved _ 1)
  | msimaStereoHeader =>
    unfold runUnit msimaStereoHeader
    refine performUnit_moved s (by rfl) fun src => .inr ?_
    exact (State.loadBoth_moved { s with src := src } _ _ _ 8).trans (State.beginBlock_moved _ 8) rfl
      (headerSamples_length _ [_, _])
  | msimaStereoBody =>
    unfold runUnit msimaStereoBody
    refine performUnit_moved s (by rfl) fun src => .inr ?_
    refine (State.loadBoth_moved { s with src := src } _ _ _ 8).trans (State.consume_moved _ 8) rfl ?_
    simp [unitSamples, interleave_length, msimaRun_length, codesOf_length]
  | dk3Header =>
    unfold runUnit dk3Header
    refine performUnit_moved s rfl fun src => .inr ?_
    exact ((((State.setCh_moved { s with src := src } ..).trans (State.setCh_moved ..)).trans
      (State.setNibble_moved ..)).trans (State.advance_moved _ 16)).trans (State.beginBlock_moved _ 16)
  | dk3Body =>
    unfold runUnit dk3Body
    refine performUnit_moved s (dk3BodyOffsets_eq s) fun src => .inr ?_
    unfold unitAdvance unitSamples dk3UnitBytes
    dsimp only
    cases s.cfg.dk3Schedule
    · exact dk3SdsBody_moved { s with src := src }
    · exact dk3SdBody_moved { s with src := src }
  | msAdpcmHeader =>
    unfold runUnit msAdpcmHeader
    refine performUnit_moved s rfl fun src => .inr ?_
    exact ((msHeader_moved { s with src := src }).trans (State.advance_moved ..)).trans (State.beginBlock_moved ..)
      ((Nat.add_zero _).trans (Nat.zero_add _))
  | msAdpcmBody =>
    unfold runUnit msAdpcmBody
    refine performUnit_moved s rfl fun src => ?_
    split
    · exact .inl (Moved.of_eq rfl rfl)
    · rename_i t ht
      exact .inr (((msBodyCodes_moved _ ht).trans (t.advance_moved 1)).trans (State.consume_moved _ 1))
  | configure | readBuffer | endOfData | isStereo | getRate | rewind | release => exact .inl (Moved.of_eq rfl rfl)
  | imaStep | okiStep | msAdpcmStep => exact .inl (Moved.of_eq rfl rfl)

/-- The engine moves as some unit does. -/
theorem dispatchUnit_moved (s : State) : ∃ i, UnitMoved i s (dispatchUnit s) := by
  rcases dispatchUnit_cases s with ⟨i, -, -, -, e⟩ | ⟨-, e⟩ <;> exact ⟨_, e ▸ runUnit_moved _ s⟩

/-! ### PEND -/

/-- No unit pushes more than PEND_DEPTH samples (R97). -/
theorem unitSamples_le (i : Instr) (s : State) : unitSamples i s ≤ 16 := by
  have hn : s.unitChannels ≤ 2 := by unfold State.unitChannels; split <;> decide
  cases i with
  | appleImaBody | msAdpcmHeader => simp only [unitSamples]; omega
  | msimaMonoHeader | msimaStereoHeader | dk3Body => simp only [unitSamples]; split <;> decide
  | _ => simp [unitSamples]

/-- A unit is performed only when PEND is empty (R121), and nothing else pushes. -/
theorem pendWithinDepth_stepInvariant : StepInvariant PendWithinDepth where
  bare _ := Iff.rfl
  latch _ _ _ _ _ := Nat.zero_le 16
  undefinedRead _ _ hs := hs
  pop s x rest _ hp hs := by
    have : (x :: rest).length ≤ 16 := hp ▸ hs
    exact Nat.le_of_succ_le this
  unit s _ hp _ _ _ := by
    have h0 : s.dec.pend.length = 0 := by rw [hp]; rfl
    unfold PendWithinDepth
    obtain ⟨i, ⟨-, hn⟩ | ⟨-, -, hn⟩⟩ := dispatchUnit_moved s
    · omega
    · have := unitSamples_le i s
      omega
  rewind _ _ _ := Nat.zero_le 16
  seekFailed _ _ _ := Nat.zero_le 16
  release _ _ := Nat.zero_le 16
  source _ _ _ hs := hs

/-- Settles O53: a unit finds PEND empty and pushes at most 16 samples. -/
theorem stepsKeepPendWithinDepth : Obligations.StepsKeepPendWithinDepth := pendWithinDepth_stepInvariant.step

/-! ### CURSOR -/

/-- A unit whose bytes are all below LIMIT does not move CURSOR past it (R96, R121). -/
theorem cursor_add_unitAdvance_le {i : Instr} {s : State} (hc : s.cursor.toNat ≤ s.limit)
    (h : ∀ o ∈ unitOffsets i s, s.cursor.toNat + o < s.limit) : s.cursor.toNat + unitAdvance i s ≤ s.limit := by
  -- The last byte read is the last one passed; only an AppleIMA unit reads elsewhere.
  have of_range {n : Nat} (h : ∀ o ∈ List.range n, s.cursor.toNat + o < s.limit) : s.cursor.toNat + n ≤ s.limit := by
    rcases n with - | n
    · exact hc
    · exact h n (List.mem_range.2 n.lt_succ_self)
  cases i with
  | okiBody | imaGenericBody | dviBody | msimaMonoBody | msAdpcmBody | msimaMonoHeader | msimaStereoHeader
  | msimaStereoBody | dk3Header | dk3Body | msAdpcmHeader => exact of_range h
  | appleImaHeader =>
    exact h 1 (by unfold unitOffsets; dsimp only; split <;> simp)
  | appleImaBody =>
    have h0 : s.cursor.toNat + 0 < s.limit := h 0 (by unfold unitOffsets; dsimp only; split <;> simp)
    unfold unitAdvance
    simp only [Bool.and_eq_true]
    split
    · rename_i hs
      have := h s.conf.blockAlign.toNat (by simp [unitOffsets, hs.1])
      omega
    · omega
  | configure | readBuffer | endOfData | isStereo | getRate | rewind | release => exact hc
  | imaStep | okiStep | msAdpcmStep => exact hc

/-- CURSOR moves by units inside LIMIT (R121), and otherwise only to START (R112, R118). -/
theorem cursorBounded_stepInvariant : StepInvariant CursorBounded where
  bare _ := Iff.rfl
  latch _ _ _ _ _ _ _ := le_max_left ..
  undefinedRead _ _ hs := hs
  pop _ _ _ _ _ hs := hs
  unit s hl _ _ he hs hsrc _ := by
    have frame := dispatchUnit_frame s
    obtain ⟨-, hc⟩ := s.atEnd_eq_false_iff.1 he
    have hlt := s.limit_lt
    rw [frame.conf_eq, frame.limit_eq]
    refine le_max_of_le_right ?_
    obtain ⟨i, ⟨hm, -⟩ | ⟨ha, hm, -⟩⟩ := dispatchUnit_moved s <;> rw [hm, BitVec.toNat_ofNat]
    · omega
    · have := cursor_add_unitAdvance_le hc.le ha
      omega
  rewind _ _ _ _ _ := le_max_left ..
  seekFailed _ _ hs := hs
  release _ _ _ hl := nomatch hl
  source s bytes _ hs hsrc hl := by
    obtain ⟨hs0, hlimit⟩ := State.withSource_kept hsrc
    rw [hlimit hl]; exact hs hs0 hl

/-- Settles O54: a unit moves CURSOR no further than the bytes it checked against LIMIT. -/
theorem stepsKeepTheCursorBounded : Obligations.StepsKeepTheCursorBounded := cursorBounded_stepInvariant.step

end Sys2Proof.Machine
end

section
/-! PROOF. Every unit keeps the channel records in the ranges of its variant's family (10_state.md R23, R24), and so does every
step. -/

namespace Sys2Proof.Machine

/-! ### The ranges of a channel record, family by family -/

/-- INDEX in [0, 88] (R23). -/
def IndexInRange (ch : Channel) : Prop := ch.index.toNat ≤ 88

/-- MODE below NCOEF (R24). -/
def ModeInRange (c : Config) (ch : Channel) : Prop := ch.mode.toNat < nCoef c

theorem channelInRange_ima {c : Config} {v : Variant} (hv : v.family = .ima) : ChannelInRange c v = IndexInRange := by
  funext ch; unfold ChannelInRange; rw [hv]; rfl

theorem channelInRange_oki {c : Config} {v : Variant} (hv : v.family = .oki) (ch : Channel) :
    ChannelInRange c v ch ↔ -2048 ≤ ch.pred.toInt ∧ ch.pred.toInt ≤ 2047 ∧ ch.index.toNat ≤ c.okiIndexMax.toNat := by
  unfold ChannelInRange; rw [hv]

theorem channelInRange_msAdpcm {c : Config} {v : Variant} (hv : v.family = .msAdpcm) :
    ChannelInRange c v = ModeInRange c := by
  funext ch; unfold ChannelInRange; rw [hv]; rfl

/-- OKI_STEP leaves PRED in 12 bits and INDEX in range, whatever they were before (R160). -/
theorem okiStepChannel_inRange {c : Config} {v : Variant} (hv : v.family = .oki) (code : Code) (ch : Channel) :
    ChannelInRange c v (okiStepChannel c code ch) := by
  have hp : (okiStepChannel c code ch).pred.toInt = _ := int16_clamp12_toInt _
  have hi : (okiStepChannel c code ch).index.toNat ≤ c.okiIndexMax.toNat :=
    nextIndex_le c (Nat.le_of_lt_succ c.okiIndexMax.isLt) code ch.index
  exact (channelInRange_oki hv _).2 ⟨by omega, by omega, hi⟩

/-- MSADPCM_STEP leaves MODE alone (R230). -/
theorem msStepChannel_mode {c : Config} {code : Code} {ch ch' : Channel} (h : msStepChannel c code ch = some ch') :
    ch'.mode = ch.mode := by
  rw [(msStepChannel_some h).2]

/-! ### What the state's operations do to both channels -/

/-- Both channel records have a property. -/
def BothChannels (R : Channel → Prop) (s : State) : Prop := R s.dec.ch0 ∧ R s.dec.ch1

section Both
variable {R : Channel → Prop} {s : State}

theorem BothChannels.ch (h : BothChannels R s) (k : Chan) : R (s.ch k) := by
  cases k
  · exact h.1
  · exact h.2

theorem BothChannels.setCh (h : BothChannels R s) (k : Chan) {c : Channel} (hc : R c) : BothChannels R (s.setCh k c) := by
  cases k
  · exact ⟨hc, h.2⟩
  · exact ⟨h.1, hc⟩

/-! Every operation other than a channel update leaves both records alone. -/

theorem BothChannels.emit (h : BothChannels R s) (xs : List Sample) : BothChannels R (s.emit xs) := h
theorem BothChannels.advance (h : BothChannels R s) (n : Nat) : BothChannels R (s.advance n) := h
theorem BothChannels.consume (h : BothChannels R s) (n : Nat) : BothChannels R (s.consume n) := h
theorem BothChannels.beginBlock (h : BothChannels R s) (n : Nat) : BothChannels R (s.beginBlock n) := h
theorem BothChannels.setNibble (h : BothChannels R s) (t : Bool) (b : Byte) : BothChannels R (s.setNibble t b) := h
theorem BothChannels.withSrc (h : BothChannels R s) (src : List Host.Cell) : BothChannels R { s with src := src } := h

/-- A unit keeps what its rule keeps, whatever bytes the rule reads. -/
theorem BothChannels.performUnit {offs : List Nat} {body : State → State} (h : BothChannels R s)
    (hb : ∀ src, BothChannels R (body { s with src := src })) : BothChannels R (performUnit offs body s) := by
  rcases performUnit_cases offs body s with ⟨-, -, e⟩ | ⟨-, -, e⟩ | ⟨-, e⟩ <;> rw [e]
  · exact hb s.src
  · exact hb (s.freeSource offs)
  · exact h

end Both

/-! ### The IMA family -/

/-! A header loads an INDEX in range (R89, R90, R93). -/

theorem applePreambleChannel_index (c : Config) (src : List Host.Cell) (a : Nat) (ch : Channel) :
    IndexInRange (applePreambleChannel c src a ch) := headerIndex_le _
theorem msimaHeaderChannel_index (src : List Host.Cell) (a : Nat) (ch : Channel) :
    IndexInRange (msimaHeaderChannel src a ch) := headerIndex_le _
theorem dk3HeaderChannel_index (src : List Host.Cell) (p x : Nat) (ch : Channel) :
    IndexInRange (dk3HeaderChannel src p x ch) := headerIndex_le _

/-- IMA_STEP leaves INDEX in range, whatever it was before (R170). -/
theorem imaStepChannel_index (c : Config) (code : Code) (ch : Channel) : IndexInRange (imaStepChannel c code ch) :=
  nextIndex_le c (by decide) code ch.index

/-- A run of codes keeps INDEX in range (R202). -/
theorem msimaRun_index (c : Config) (invert : Bool) (codes : List Code) {ch : Channel} (h : IndexInRange ch) :
    IndexInRange (msimaRun c invert codes ch).1 := by
  induction codes generalizing ch with
  | nil => exact h
  | cons code rest ih => exact ih (imaStepChannel_index ..)

section Ima
variable {s : State}

theorem BothChannels.imaStep (h : BothChannels IndexInRange s) (k : Chan) (c : Code) :
    BothChannels IndexInRange (s.imaStep k c) := h.setCh k (imaStepChannel_index ..)
theorem BothChannels.imaEmit (h : BothChannels IndexInRange s) (k : Chan) (c : Code) :
    BothChannels IndexInRange (s.imaEmit k c) := (h.imaStep k c).emit _
theorem BothChannels.msimaEmit (h : BothChannels IndexInRange s) (k : Chan) (c : Code) :
    BothChannels IndexInRange (s.msimaEmit k c) := (h.imaStep k _).emit _

theorem BothChannels.nextNibState {R : Channel → Prop} (h : BothChannels R s) : BothChannels R (nextNibState s) := by
  unfold Machine.nextNibState
  split
  · exact h.setNibble ..
  · exact ((h.setNibble ..).advance 1).consume 1

theorem BothChannels.dk3Step (h : BothChannels IndexInRange s) (k : Chan) : BothChannels IndexInRange (s.dk3Step k) :=
  h.nextNibState.imaStep k _
theorem BothChannels.dk3Emit {R : Channel → Prop} (h : BothChannels R s) : BothChannels R s.dk3Emit := h.emit _

theorem BothChannels.imaStreamBody (h : BothChannels IndexInRange s) (o : NibbleOrder) :
    BothChannels IndexInRange (imaStreamBody o s) :=
  ((h.advance 1).imaEmit ..).imaEmit ..

theorem BothChannels.appleLoad (h : BothChannels IndexInRange s) : BothChannels IndexInRange (appleLoad s) := by
  unfold Machine.appleLoad
  split
  · exact (h.setCh .zero (applePreambleChannel_index ..)).setCh .one (applePreambleChannel_index ..)
  · exact h.setCh .zero (applePreambleChannel_index ..)

theorem BothChannels.appleSkip {R : Channel → Prop} (h : BothChannels R s) : BothChannels R (appleSkip s) := by
  unfold Machine.appleSkip
  split
  · exact h.advance _
  · exact h

theorem BothChannels.appleStereoBody (h : BothChannels IndexInRange s) : BothChannels IndexInRange (appleStereoBody s) :=
  ((((((h.imaEmit ..).imaEmit ..).imaEmit ..).imaEmit ..).advance 1).consume 1).appleSkip

theorem BothChannels.appleMonoBody (h : BothChannels IndexInRange s) : BothChannels IndexInRange (appleMonoBody s) :=
  (((h.imaEmit ..).imaEmit ..).advance 1).consume 1

/-- Every unit of the IMA family keeps INDEX in range. -/
theorem runUnit_index {i : Instr} {v : Variant} (hf : i.formedUnder v = true) (hv : v.family = .ima)
    (h : BothChannels IndexInRange s) : BothChannels IndexInRange (runUnit i s) := by
  cases i with
  | okiBody | msAdpcmHeader | msAdpcmBody => rw [eq_of_beq hf] at hv; cases hv
  | imaGenericBody =>
    unfold runUnit imaGenericBody
    exact h.performUnit fun src => (h.withSrc src).imaStreamBody _
  | dviBody =>
    unfold runUnit dviBody
    exact h.performUnit fun src => (h.withSrc src).imaStreamBody _
  | appleImaHeader =>
    unfold runUnit appleImaHeader
    exact h.performUnit fun src => ((h.withSrc src).appleLoad.advance 2).beginBlock 2
  | appleImaBody =>
    unfold runUnit appleImaBody
    refine h.performUnit fun src => ?_
    split
    · exact (h.withSrc src).appleStereoBody
    · exact (h.withSrc src).appleMonoBody
  | msimaMonoHeader =>
    unfold runUnit msimaMonoHeader
    exact h.performUnit fun src =>
      ((((h.withSrc src).setCh .zero (msimaHeaderChannel_index ..)).emit _).advance 4).beginBlock 4
  | msimaMonoBody =>
    unfold runUnit msimaMonoBody
    exact h.performUnit fun src => ((((h.withSrc src).msimaEmit ..).msimaEmit ..).advance 1).consume 1
  | msimaStereoHeader =>
    unfold runUnit msimaStereoHeader
    exact h.performUnit fun src => (((((h.withSrc src).setCh .zero (msimaHeaderChannel_index ..)).setCh .one
      (msimaHeaderChannel_index ..)).emit _).advance 8).beginBlock 8
  | msimaStereoBody =>
    unfold runUnit msimaStereoBody
    exact h.performUnit fun src => (((((h.withSrc src).setCh .zero (msimaRun_index _ _ _ h.1)).setCh .one
      (msimaRun_index _ _ _ h.2)).emit _).advance 8).consume 8
  | dk3Header =>
    unfold runUnit dk3Header
    exact h.performUnit fun src => (((((h.withSrc src).setCh .zero (dk3HeaderChannel_index ..)).setCh .one
      (dk3HeaderChannel_index ..)).setNibble ..).advance 16).beginBlock 16
  | dk3Body =>
    unfold runUnit dk3Body
    refine h.performUnit fun src => ?_
    split
    · exact (((((h.withSrc src).dk3Step .zero).dk3Step .one).dk3Emit).dk3Step .zero).dk3Emit
    · exact (((h.withSrc src).dk3Step .zero).dk3Step .one).dk3Emit
  | configure | readBuffer | endOfData | isStereo | getRate | rewind | release => exact h
  | imaStep | okiStep | msAdpcmStep => exact h

end Ima

/-! ### OKI and MS_ADPCM -/

section OkiMs
variable {s : State}

/-- A property of the channel records that every OKI_STEP establishes is kept by the OKI unit. -/
theorem BothChannels.okiEmit {R : Channel → Prop} (h : BothChannels R s)
    (hR : ∀ code ch, R (okiStepChannel s.cfg code ch)) (k : Chan) (c : Code) : BothChannels R (s.okiEmit k c) :=
  (h.setCh k (hR _ _)).emit _

@[simp] theorem State.okiEmit_cfg (k : Chan) (c : Code) : (s.okiEmit k c).cfg = s.cfg := s.setCh_cfg k _

theorem BothChannels.okiBody {R : Channel → Prop} (h : BothChannels R s)
    (hR : ∀ code ch, R (okiStepChannel s.cfg code ch)) : BothChannels R (okiBody s) := by
  unfold Machine.okiBody
  exact h.performUnit fun src => (((h.withSrc src).advance 1).okiEmit hR ..).okiEmit (by simpa using hR) ..

theorem msHeaderChannel_mode (cfg : Config) (src : List Host.Cell) (base n c : Nat) (ch : Channel) :
    ModeInRange cfg (msHeaderChannel cfg src base n c ch) := headerMode_lt cfg _

theorem BothChannels.msEmit {c : Config} {t : State} {k : Chan} {code : Code} (h : BothChannels (ModeInRange c) s)
    (ht : s.msEmit k code = some t) : BothChannels (ModeInRange c) t := by
  unfold State.msEmit at ht
  split at ht
  · cases ht
  · rename_i ch hch
    cases ht
    have hm : ch.mode = (s.ch k).mode := msStepChannel_mode hch
    exact (h.setCh k (by unfold ModeInRange; rw [hm]; exact h.ch k)).emit _

theorem BothChannels.msBodyCodes {c : Config} {t : State} (h : BothChannels (ModeInRange c) s)
    (ht : msBodyCodes s = some t) : BothChannels (ModeInRange c) t := by
  simp only [Machine.msBodyCodes] at ht
  split at ht
  · cases ht
  · rename_i u hu
    exact (h.msEmit hu).msEmit ht

theorem BothChannels.msAdpcmBody {c : Config} (h : BothChannels (ModeInRange c) s) :
    BothChannels (ModeInRange c) (msAdpcmBody s) := by
  unfold Machine.msAdpcmBody
  refine h.performUnit fun src => ?_
  split
  · exact h
  · rename_i t ht
    exact (((h.withSrc src).msBodyCodes ht).advance 1).consume 1

theorem BothChannels.msAdpcmHeader (h : BothChannels (ModeInRange s.cfg) s) :
    BothChannels (ModeInRange s.cfg) (msAdpcmHeader s) := by
  unfold Machine.msAdpcmHeader
  refine h.performUnit fun src => BothChannels.beginBlock (BothChannels.advance ?_ _) _
  split
  · exact (((h.withSrc src).setCh .zero (msHeaderChannel_mode ..)).setCh .one (msHeaderChannel_mode ..)).emit _
  · exact ((h.withSrc src).setCh .zero (msHeaderChannel_mode ..)).emit _

end OkiMs

/-! ### Every unit and every step -/

/-- The engine performs a unit of the active variant (R99). -/
theorem dispatchUnit_formed (s : State) :
    ∃ i, i.isUnit = true ∧ i.formedUnder s.conf.variant = true ∧ dispatchUnit s = runUnit i s := by
  rcases dispatchUnit_cases s with ⟨i, -, -, hi, e⟩ | ⟨-, e⟩
  · refine ⟨i, ?_, ?_, e⟩ <;> cases hv : s.conf.variant <;> rw [hv] at hi <;> cases hi <;> rfl
  · refine ⟨_, ?_, ?_, e⟩ <;> cases s.conf.variant <;> rfl

/-- A unit of the active variant keeps both records in the variant's ranges. -/
theorem runUnit_channels {i : Instr} {s : State} (hf : i.formedUnder s.conf.variant = true) (h : ChannelsInRange s) :
    BothChannels (ChannelInRange s.cfg s.conf.variant) (runUnit i s) := by
  have hs : BothChannels (ChannelInRange s.cfg s.conf.variant) s := h
  by_cases hv : s.conf.variant.family = .ima
  · rw [channelInRange_ima hv] at hs ⊢
    exact runUnit_index hf hv hs
  cases i with
  | okiBody => exact hs.okiBody (okiStepChannel_inRange (by rw [eq_of_beq hf]; rfl))
  | msAdpcmHeader =>
    rw [channelInRange_msAdpcm (by rw [eq_of_beq hf]; rfl)] at hs ⊢
    exact hs.msAdpcmHeader
  | msAdpcmBody =>
    rw [channelInRange_msAdpcm (by rw [eq_of_beq hf]; rfl)] at hs ⊢
    exact hs.msAdpcmBody
  | imaGenericBody | dviBody | appleImaHeader | appleImaBody | msimaMonoHeader | msimaMonoBody | msimaStereoHeader
  | msimaStereoBody | dk3Header | dk3Body => exact absurd (by rw [eq_of_beq hf]; rfl) hv
  | configure | readBuffer | endOfData | isStereo | getRate | rewind | release => exact hs
  | imaStep | okiStep | msAdpcmStep => exact hs

/-- reset() leaves zero records, in range for every variant; only units change them otherwise. -/
theorem channelsInRange_stepInvariant : StepInvariant ChannelsInRange where
  bare _ := Iff.rfl
  latch _ _ _ _ _ := ⟨channelInRange_zero .., channelInRange_zero ..⟩
  undefinedRead _ _ hs := hs
  pop _ _ _ _ _ hs := hs
  unit s _ _ _ _ hs := by
    have frame := dispatchUnit_frame s
    obtain ⟨i, -, hf, e⟩ := dispatchUnit_formed s
    unfold ChannelsInRange
    rw [frame.cfg_eq, frame.conf_eq, e]
    exact runUnit_channels hf hs
  rewind _ _ _ := ⟨channelInRange_zero .., channelInRange_zero ..⟩
  seekFailed _ _ _ := ⟨channelInRange_zero .., channelInRange_zero ..⟩
  release _ _ := ⟨channelInRange_zero .., channelInRange_zero ..⟩
  source _ _ _ hs := hs

/-- Settles O55: the engine performs units of the active variant only, and each keeps that variant's ranges. -/
theorem stepsKeepTheChannelsInRange : Obligations.StepsKeepTheChannelsInRange := channelsInRange_stepInvariant.step

end Sys2Proof.Machine
end

section
/-! PROOF. Where a unit leaves CURSOR and the layout trackers (30_encoding.md R96), and from it the grid of blocks that every step
keeps (20_memory.md R65, R67). -/

namespace Sys2Proof.Machine

/-! ### The place in the stream -/

/-- Where the decoder stands in the stream: CURSOR, BLOCKREM and TOPNIB. -/
def State.place (s : State) : Word32 × Word32 × Bool := (s.cursor, s.dec.blockRem, s.dec.topNib)

theorem State.place_eq_iff {s : State} {c r : Word32} {n : Bool} :
    s.place = (c, r, n) ↔ s.cursor = c ∧ s.dec.blockRem = r ∧ s.dec.topNib = n := by
  simp only [State.place, Prod.mk.injEq]

section Operations
variable (s : State) (k : Chan) (c : Code)

@[simp] theorem State.setCh_place (ch : Channel) : (s.setCh k ch).place = s.place := by cases k <;> rfl
@[simp] theorem State.imaEmit_place : (s.imaEmit k c).place = s.place := s.setCh_place k _
@[simp] theorem State.okiEmit_place : (s.okiEmit k c).place = s.place := s.setCh_place k _

theorem State.msEmit_place {t : State} (h : s.msEmit k c = some t) : t.place = s.place := by
  unfold State.msEmit at h
  split at h
  · cases h
  · cases h; exact s.setCh_place k _

/-- Both channels loaded and samples pushed. -/
theorem State.loadBoth_place (c0 c1 : Channel) (xs : List Sample) :
    (((s.setCh .zero c0).setCh .one c1).emit xs).place = s.place := rfl

/-- Bytes passed and counted off the block, after codes that leave the place alone. -/
theorem State.consume_advance_place {t : State} (h : t.place = s.place) (n : Nat) :
    ((t.advance n).consume n).place =
      (BitVec.ofNat 32 (s.cursor.toNat + n), s.dec.blockRem - BitVec.ofNat 32 n, s.dec.topNib) := by
  obtain ⟨hc, hr, hn⟩ := State.place_eq_iff.1 h
  simp [State.place, hc, hr, hn]

/-- NEXTNIB() passes a byte when no nibble of the last one is left (R211). -/
theorem nextNibState_place {c r : Word32} {n : Bool} (h : s.place = (c, r, n)) :
    (nextNibState s).place = if n then (c, r, false) else (BitVec.ofNat 32 (c.toNat + 1), r - 1#32, true) := by
  obtain ⟨rfl, rfl, rfl⟩ := State.place_eq_iff.1 h
  unfold nextNibState
  split <;> rfl

@[simp] theorem State.dk3Step_place : (s.dk3Step k).place = (nextNibState s).place := State.setCh_place _ k _

end Operations

/-! ### The place each rule leaves -/

/-- TOPNIB after a unit: cleared by a DK3 header, and turned over by the three nibbles of a DK3 body under SDS (R210, R212). -/
def unitTopNib (i : Instr) (s : State) : Bool :=
  match i with
  | .dk3Header => false
  | .dk3Body =>
    match s.cfg.dk3Schedule with
    | .sds => !s.dec.topNib
    | .sd => s.dec.topNib
  | _ => s.dec.topNib

/-- The place after the unit `i`, by its row (R96). -/
def unitPlace (i : Instr) (s : State) : Word32 × Word32 × Bool :=
  (BitVec.ofNat 32 (s.cursor.toNat + unitAdvance i s), unitBlockRem i s, unitTopNib i s)

section Rules
variable (s : State)

theorem imaStreamBody_place (o : NibbleOrder) :
    (imaStreamBody o s).place = (BitVec.ofNat 32 (s.cursor.toNat + 1), s.dec.blockRem, s.dec.topNib) := by
  simp [imaStreamBody]; rfl

theorem appleSkip_dec : (appleSkip s).dec = s.dec := by
  unfold appleSkip; split <;> rfl

theorem appleBody_place :
    (if s.isStereo then appleStereoBody s else appleMonoBody s).place = unitPlace .appleImaBody s := by
  obtain ⟨hc, -⟩ := appleBody_moved s
  refine State.place_eq_iff.2 ⟨hc, ?_⟩
  cases s.isStereo
  · exact ⟨rfl, rfl⟩
  · simp only [if_true, appleStereoBody, appleSkip_dec]
    exact ⟨rfl, rfl⟩

/-- A sum and a difference nibble pass one byte between them, whichever half comes first. -/
theorem dk3Pair_place : ((s.dk3Step .zero).dk3Step .one).place =
    (BitVec.ofNat 32 (s.cursor.toNat + 1), s.dec.blockRem - 1#32, s.dec.topNib) := by
  rw [State.dk3Step_place]
  have h : (s.dk3Step .zero).place = _ := (s.dk3Step_place .zero).trans (nextNibState_place s rfl)
  cases hn : s.dec.topNib <;> simp only [hn] at h <;> exact nextNibState_place _ h

/-- The third nibble passes a byte when the pair has left none (R212). -/
theorem dk3SdsBody_place : (dk3SdsBody s).place =
    if s.dec.topNib then (BitVec.ofNat 32 (s.cursor.toNat + 1), s.dec.blockRem - 1#32, false)
    else (BitVec.ofNat 32 (s.cursor.toNat + 2), s.dec.blockRem - 2#32, true) := by
  have hp : (((s.dk3Step .zero).dk3Step .one).dk3Emit).place = _ := dk3Pair_place s
  have h : (dk3SdsBody s).place = _ := (State.dk3Step_place _ .zero).trans (nextNibState_place _ hp)
  have hc : BitVec.ofNat 32 ((BitVec.ofNat 32 (s.cursor.toNat + 1)).toNat + 1) =
      BitVec.ofNat 32 (s.cursor.toNat + 2) := BitVec.eq_of_toNat_eq (by simp)
  have hr : s.dec.blockRem - 1#32 - 1#32 = s.dec.blockRem - 2#32 := BitVec.sub_sub ..
  rw [h, hc, hr]

theorem msBodyCodes_place {t : State} (h : msBodyCodes s = some t) : t.place = s.place := by
  simp only [msBodyCodes] at h
  split at h
  · cases h
  · rename_i u hu
    exact (u.msEmit_place _ _ h).trans (s.msEmit_place _ _ hu)

end Rules

/-! ### The place each unit leaves -/

/-- The unit `i` leaves the place alone, when it is cut off (R123) or faults (R232); or moves on as its row says, with all its bytes
below LIMIT (R96, R121). -/
def UnitPlaced (i : Instr) (s t : State) : Prop :=
  t.place = s.place ∨ (∀ o ∈ unitOffsets i s, s.cursor.toNat + o < s.limit) ∧ t.place = unitPlace i s

/-- A unit leaves the place its rule does, whatever bytes the rule reads. -/
theorem performUnit_placed {i : Instr} {offs : List Nat} {body : State → State} (s : State) (ho : offs = unitOffsets i s)
    (h : ∀ src, (body { s with src := src }).place = s.place ∨ (body { s with src := src }).place = unitPlace i s) :
    UnitPlaced i s (performUnit offs body s) := by
  subst ho
  rcases performUnit_cases (unitOffsets i s) body s with ⟨ha, -, e⟩ | ⟨ha, -, e⟩ | ⟨-, e⟩ <;> rw [e]
  · exact (h s.src).imp_right fun hp => ⟨State.available_iff.1 ha, hp⟩
  · exact (h (s.freeSource _)).imp_right fun hp => ⟨State.available_iff.1 ha, hp⟩
  · exact .inl rfl

theorem runUnit_placed (i : Instr) (s : State) : UnitPlaced i s (runUnit i s) := by
  cases i with
  | okiBody =>
    unfold runUnit okiBody
    exact performUnit_placed s rfl fun src => .inr (by simp; rfl)
  | imaGenericBody =>
    unfold runUnit imaGenericBody
    exact performUnit_placed s rfl fun src => .inr (imaStreamBody_place { s with src := src } _)
  | dviBody =>
    unfold runUnit dviBody
    exact performUnit_placed s rfl fun src => .inr (imaStreamBody_place { s with src := src } _)
  | appleImaHeader =>
    unfold runUnit appleImaHeader
    exact performUnit_placed s rfl fun src => .inr (by unfold appleLoad; split <;> rfl)
  | appleImaBody =>
    unfold runUnit appleImaBody
    exact performUnit_placed s rfl fun src => .inr (appleBody_place { s with src := src })
  | msimaMonoHeader =>
    unfold runUnit msimaMonoHeader
    exact performUnit_placed s (by rfl) fun src => .inr rfl
  | msimaMonoBody =>
    unfold runUnit msimaMonoBody
    exact performUnit_placed s rfl fun src => .inr rfl
  | msimaStereoHeader =>
    unfold runUnit msimaStereoHeader
    exact performUnit_placed s (by rfl) fun src => .inr rfl
  | msimaStereoBody =>
    unfold runUnit msimaStereoBody
    exact performUnit_placed s (by rfl) fun src =>
      .inr (State.consume_advance_place { s with src := src } (State.loadBoth_place ..) 8)
  | dk3Header =>
    unfold runUnit dk3Header
    exact performUnit_placed s rfl fun src => .inr rfl
  | dk3Body =>
    unfold runUnit dk3Body
    refine performUnit_placed s (dk3BodyOffsets_eq s) fun src => .inr ?_
    unfold unitPlace unitAdvance unitBlockRem unitTopNib dk3UnitBytes
    dsimp only
    cases s.cfg.dk3Schedule
    · refine (dk3SdsBody_place { s with src := src }).trans ?_
      dsimp only
      cases s.dec.topNib <;> rfl
    · exact dk3Pair_place { s with src := src }
  | msAdpcmHeader =>
    unfold runUnit msAdpcmHeader
    exact performUnit_placed s rfl fun src => .inr (by split <;> rfl)
  | msAdpcmBody =>
    unfold runUnit msAdpcmBody
    refine performUnit_placed s rfl fun src => ?_
    split
    · exact .inl rfl
    · rename_i t ht
      exact .inr (State.consume_advance_place { s with src := src } (msBodyCodes_place _ ht) 1)
  | configure | readBuffer | endOfData | isStereo | getRate | rewind | release => exact .inl rfl
  | imaStep | okiStep | msAdpcmStep => exact .inl rfl

/-! ### Headers -/

/-- `BLOCKREM <- r - n` does not borrow while `n` bytes are left. -/
theorem toNat_sub_ofNat {r : Word32} {n : Nat} (h : n ≤ r.toNat) : (r - BitVec.ofNat 32 n).toNat = r.toNat - n := by
  bv_omega

/-- CHANNELS is 1 or 2 in a legal configuration, and a unit works on that many channels (R96). -/
theorem ConfLegal.count_eq {s : State} (h : ConfLegal s.cfg s.conf) : s.conf.channels.count = s.unitChannels := by
  obtain ⟨hn, -⟩ := h
  unfold State.unitChannels State.isStereo
  cases hc : s.conf.channels
  · exact absurd hc hn
  · rfl
  · rfl

/-- A legal BA of a blocked variant (R112, R113). -/
theorem ConfLegal.blocked {c : Config} {cf : ActiveConf} (h : ConfLegal c cf) (hb : isBlocked cf.variant = true) :
    cf.blockAlign ≠ 0#32 ∧ geometryOK c cf.variant cf.channels cf.blockAlign.toNat = true := by
  obtain ⟨-, -, -, hblocked, -⟩ := h
  exact hblocked hb

theorem isBlocked_of_headerUnit {v : Variant} {i : Instr} (hi : v.headerUnit = some i) : isBlocked v = true := by
  cases v
  case oki | imaGeneric | dvi => cases hi
  all_goals rfl

/-- After a header the rest of BA is ahead (R96). -/
theorem header_blockRem {v : Variant} {i : Instr} (hi : v.headerUnit = some i) (s : State) :
    unitBlockRem i s = s.conf.blockAlign - BitVec.ofNat 32 (unitAdvance i s) := by
  cases v <;> cases hi <;> rfl

/-- A header is shorter than a legal BA (R113). -/
theorem header_fits {s : State} {i : Instr} (legal : ConfLegal s.cfg s.conf) (hi : s.conf.variant.headerUnit = some i) :
    0 < unitAdvance i s ∧ unitAdvance i s < s.conf.blockAlign.toNat := by
  have hcount := legal.count_eq
  have hn : 0 < s.unitChannels := by unfold State.unitChannels; split <;> decide
  obtain ⟨-, hg⟩ := legal.blocked (isBlocked_of_headerUnit hi)
  cases hv : s.conf.variant <;> rw [hv] at hi hg <;> cases hi
  all_goals
    simp only [geometryOK, Bool.and_eq_true, decide_eq_true_eq] at hg
    simp only [unitAdvance]
    omega

/-- What follows a header is a whole number of body units (R113, R204, R215). -/
theorem header_tiled {s t : State} {i : Instr} (frame : EngineFrame s t) (legal : ConfLegal s.cfg s.conf)
    (hi : s.conf.variant.headerUnit = some i)
    (hr : t.dec.blockRem.toNat = s.conf.blockAlign.toNat - unitAdvance i s) (hn : t.dec.topNib = unitTopNib i s) :
    BodyTiled t := by
  obtain ⟨-, hg⟩ := legal.blocked (isBlocked_of_headerUnit hi)
  unfold BodyTiled
  rw [frame.conf_eq, frame.cfg_eq, hr, hn]
  cases hv : s.conf.variant <;> rw [hv] at hi hg <;> cases hi <;>
    simp only [geometryOK, Bool.and_eq_true, decide_eq_true_eq] at hg
  case appleIma | msimaMono | msAdpcm => trivial
  case msimaStereo => exact hg.2
  case dk3 =>
    cases hs : s.cfg.dk3Schedule
    · rw [hs] at hg; exact hg.2
    · rfl

/-- A header moves the place of the next one on by a stride (R67). -/
theorem header_stride {s t : State} {i : Instr} (frame : EngineFrame s t) (h0 : s.dec.blockRem = 0#32)
    (hfit : unitAdvance i s < s.conf.blockAlign.toNat) (hc : t.cursor.toNat = s.cursor.toNat + unitAdvance i s)
    (hr : t.dec.blockRem.toNat = s.conf.blockAlign.toNat - unitAdvance i s) :
    nextHeaderAt t = nextHeaderAt s + headerStride s := by
  have hne : t.dec.blockRem ≠ 0#32 := fun h => by
    rw [h, BitVec.toNat_ofNat] at hr; omega
  have hz : s.dec.blockRem.toNat = 0 := by rw [h0]; rfl
  simp only [nextHeaderAt, headerStride, frame.conf_eq, hc, hr, h0, hne, ne_eq, not_true_eq_false, not_false_eq_true,
    and_false, and_true, if_false]
  split <;> simp <;> omega

/-! ### Bodies -/

/-- How many bytes of its block a body unit decodes (R96). -/
def bodyBytes (s : State) : Nat :=
  match s.conf.variant with
  | .msimaStereo => 8
  | .dk3 => dk3UnitBytes s
  | _ => 1

/-- A body unit counts its bytes off the block (R96). -/
theorem body_blockRem {s : State} (hb : isBlocked s.conf.variant = true) :
    unitBlockRem s.conf.variant.bodyUnit s = s.dec.blockRem - BitVec.ofNat 32 (bodyBytes s) := by
  unfold bodyBytes
  cases hv : s.conf.variant <;> rw [hv] at hb
  case oki | imaGeneric | dvi => cases hb
  all_goals rfl

/-- A body unit passes its bytes, and channel 1's chunk after the last of an AppleIMA pair (R193). -/
theorem body_advance (s : State) :
    unitAdvance s.conf.variant.bodyUnit s = bodyBytes s +
      if s.conf.variant = .appleIma ∧ s.conf.channels = .stereo ∧ s.dec.blockRem - BitVec.ofNat 32 (bodyBytes s) = 0#32
      then s.conf.blockAlign.toNat else 0 := by
  unfold bodyBytes
  cases hv : s.conf.variant
  case appleIma =>
    simp only [Variant.bodyUnit, unitAdvance, State.isStereo, true_and, Bool.and_eq_true, decide_eq_true_eq]
    split <;> rfl
  all_goals rfl

/-- While a block is not done, all bytes of a body unit are left of it (R113). -/
theorem body_fits {s : State} (ht : BodyTiled s) (h0 : s.dec.blockRem ≠ 0#32) :
    0 < bodyBytes s ∧ bodyBytes s ≤ s.dec.blockRem.toNat := by
  have hpos : 0 < s.dec.blockRem.toNat := BitVec.toNat_pos_of_ne_zero h0
  unfold BodyTiled at ht
  unfold bodyBytes
  cases hv : s.conf.variant <;> rw [hv] at ht
  case msimaStereo => dsimp only at ht ⊢; omega
  case dk3 =>
    unfold dk3UnitBytes
    cases hs : s.cfg.dk3Schedule <;> rw [hs] at ht
    · cases hn : s.dec.topNib <;> rw [hn] at ht <;> simp at ht ⊢ <;> omega
    · exact ⟨Nat.one_pos, hpos⟩
  all_goals exact ⟨Nat.one_pos, hpos⟩

/-- What follows a body unit is a whole number of them again. -/
theorem body_tiled {s t : State} (frame : EngineFrame s t) (ht : BodyTiled s) (hfit : bodyBytes s ≤ s.dec.blockRem.toNat)
    (hr : t.dec.blockRem.toNat = s.dec.blockRem.toNat - bodyBytes s)
    (hn : t.dec.topNib = unitTopNib s.conf.variant.bodyUnit s) : BodyTiled t := by
  unfold BodyTiled at ht ⊢
  unfold bodyBytes at hfit hr
  rw [frame.conf_eq, frame.cfg_eq, hr, hn]
  cases hv : s.conf.variant <;> rw [hv] at ht hfit
  case msimaStereo => dsimp only at ht ⊢; omega
  case dk3 =>
    cases hs : s.cfg.dk3Schedule <;> rw [hs] at ht
    · cases hb : s.dec.topNib <;> simp [dk3UnitBytes, Variant.bodyUnit, unitTopNib, hs, hb] at ht hfit ⊢ <;> omega
    · simpa [Variant.bodyUnit, unitTopNib, hs] using ht
  all_goals trivial

/-- A body unit leaves the place of the next header alone (R193). -/
theorem body_nextHeader {s t : State} (frame : EngineFrame s t) (h0 : s.dec.blockRem ≠ 0#32)
    (hfit : bodyBytes s ≤ s.dec.blockRem.toNat)
    (hc : t.cursor.toNat = s.cursor.toNat + unitAdvance s.conf.variant.bodyUnit s)
    (hr : t.dec.blockRem = s.dec.blockRem - BitVec.ofNat 32 (bodyBytes s)) : nextHeaderAt t = nextHeaderAt s := by
  have hr' : t.dec.blockRem.toNat = s.dec.blockRem.toNat - bodyBytes s := by rw [hr, toNat_sub_ofNat hfit]
  simp only [nextHeaderAt, frame.conf_eq, hc, body_advance, ← hr, hr', h0, ne_eq, not_false_eq_true, and_true]
  by_cases ha : s.conf.variant = .appleIma ∧ s.conf.channels = .stereo
  · by_cases hz : t.dec.blockRem = 0#32 <;> simp [ha, hz] <;> omega
  · simp [← and_assoc, ha]; omega

/-! ### The grid -/

theorem EngineFrame.cursorValid_eq {s t : State} (h : EngineFrame s t) : t.cursorValid = s.cursorValid := by rw [h.1]

theorem EngineFrame.headerStride_eq {s t : State} (h : EngineFrame s t) : headerStride t = headerStride s := by
  unfold headerStride; rw [h.conf_eq]

/-- A unit that leaves the place alone leaves the grid alone. -/
theorem BlocksOnGrid.of_place {s t : State} (hs : BlocksOnGrid s) (frame : EngineFrame s t) (h : t.place = s.place) :
    BlocksOnGrid t := by
  obtain ⟨hc, hr, hn⟩ := State.place_eq_iff.1 h
  unfold BlocksOnGrid BodyTiled nextHeaderAt headerStride at hs ⊢
  rw [frame.life_eq, frame.conf_eq, frame.cfg_eq, frame.cursorValid_eq, hc, hr, hn]
  exact hs

/-- A header that is performed begins a block on the grid. -/
theorem BlocksOnGrid.header {s t : State} {i : Instr} (hs : BlocksOnGrid s) (frame : EngineFrame s t)
    (h0 : s.dec.blockRem = 0#32) (hi : s.conf.variant.headerUnit = some i)
    (hc : t.cursor.toNat = s.cursor.toNat + unitAdvance i s) (hr : t.dec.blockRem = unitBlockRem i s)
    (hn : t.dec.topNib = unitTopNib i s) : BlocksOnGrid t := by
  unfold BlocksOnGrid
  rw [frame.life_eq, frame.conf_eq, frame.cfg_eq, frame.cursorValid_eq]
  intro hl hb
  obtain ⟨legal, -, -, hgrid⟩ := hs hl hb
  obtain ⟨hpos, hfit⟩ := header_fits legal hi
  have hr' : t.dec.blockRem.toNat = s.conf.blockAlign.toNat - unitAdvance i s := by
    rw [hr, header_blockRem hi, toNat_sub_ofNat hfit.le]
  refine ⟨legal, by omega, header_tiled frame legal hi hr' hn, fun hv => ?_⟩
  obtain ⟨hle, hmod⟩ := hgrid hv
  have hstart : s.conf.start.toNat ≤ nextHeaderAt s := by unfold nextHeaderAt; omega
  refine ⟨by omega, ?_⟩
  rw [frame.headerStride_eq, header_stride frame h0 hfit hc hr', Nat.sub_add_comm hstart, Nat.add_mod_right]
  exact hmod

/-- A body unit that is performed stays in its block. -/
theorem BlocksOnGrid.body {s t : State} (hs : BlocksOnGrid s) (frame : EngineFrame s t) (h0 : s.dec.blockRem ≠ 0#32)
    (hc : t.cursor.toNat = s.cursor.toNat + unitAdvance s.conf.variant.bodyUnit s)
    (hr : t.dec.blockRem = unitBlockRem s.conf.variant.bodyUnit s)
    (hn : t.dec.topNib = unitTopNib s.conf.variant.bodyUnit s) : BlocksOnGrid t := by
  unfold BlocksOnGrid
  rw [frame.life_eq, frame.conf_eq, frame.cfg_eq, frame.cursorValid_eq]
  intro hl hb
  obtain ⟨legal, hrem, htiled, hgrid⟩ := hs hl hb
  obtain ⟨-, hfit⟩ := body_fits htiled h0
  rw [body_blockRem hb] at hr
  have hr' : t.dec.blockRem.toNat = s.dec.blockRem.toNat - bodyBytes s := by rw [hr, toNat_sub_ofNat hfit]
  refine ⟨legal, by omega, body_tiled frame htiled hfit hr' hn, fun hv => ?_⟩
  obtain ⟨hle, hmod⟩ := hgrid hv
  rw [frame.headerStride_eq, body_nextHeader frame h0 hfit hc hr]
  exact ⟨by omega, hmod⟩

/-- CURSOR does not wrap at a unit whose bytes are below LIMIT (R30). -/
theorem cursor_of_unitPlace {i : Instr} {s t : State} (hc : s.cursor.toNat < s.limit)
    (ha : ∀ o ∈ unitOffsets i s, s.cursor.toNat + o < s.limit)
    (h : t.cursor = BitVec.ofNat 32 (s.cursor.toNat + unitAdvance i s)) :
    t.cursor.toNat = s.cursor.toNat + unitAdvance i s := by
  have := cursor_add_unitAdvance_le hc.le ha
  have := s.limit_lt
  rw [h, BitVec.toNat_ofNat, Nat.mod_eq_of_lt (by omega)]

/-- The engine performs a header exactly between blocks (R122). -/
theorem BlocksOnGrid.dispatchUnit {s : State} (hs : BlocksOnGrid s) (hc : s.cursor.toNat < s.limit) :
    BlocksOnGrid (dispatchUnit s) := by
  have frame := dispatchUnit_frame s
  rcases dispatchUnit_cases s with ⟨i, hb, h0, hi, e⟩ | ⟨h0, e⟩ <;> rw [e] at frame ⊢
  · rcases runUnit_placed i s with h | ⟨ha, h⟩
    · exact hs.of_place frame h
    · obtain ⟨hcur, hr, hn⟩ := State.place_eq_iff.1 h
      exact hs.header frame h0 hi (cursor_of_unitPlace hc ha hcur) hr hn
  · rcases runUnit_placed s.conf.variant.bodyUnit s with h | ⟨ha, h⟩
    · exact hs.of_place frame h
    · obtain ⟨hcur, hr, hn⟩ := State.place_eq_iff.1 h
      intro hl hb
      refine hs.body frame (h0.resolve_left ?_) (cursor_of_unitPlace hc ha hcur) hr hn hl hb
      rw [frame.conf_eq] at hb
      simp [hb]

/-- reset() leaves no block begun, and no half-decoded byte (R120). -/
theorem bodyTiled_zero {s : State} (h : s.dec = Decoder.zero) : BodyTiled s := by
  unfold BodyTiled
  rw [h]
  cases s.conf.variant
  case dk3 => cases s.cfg.dk3Schedule <;> rfl
  case msimaStereo => rfl
  all_goals trivial

/-- A legal configuration is on the grid after reset(), with CURSOR at START or undefined (R112, R118). -/
theorem blocksOnGrid_zero {s : State} (hd : s.dec = Decoder.zero) (legal : ConfLegal s.cfg s.conf)
    (hc : s.cursorValid = true → s.cursor = s.conf.start) : BlocksOnGrid s := by
  intro _ hb
  obtain ⟨hne, -⟩ := legal.blocked hb
  have hrem : s.dec.blockRem = 0#32 := by rw [hd]; rfl
  refine ⟨legal, by rw [hrem]; exact BitVec.toNat_pos_of_ne_zero hne, bodyTiled_zero hd, fun hv => ?_⟩
  simp [nextHeaderAt, hrem, hc hv]

/-- CONFIGURE and REWIND start the grid, and units move along it. -/
theorem blocksOnGrid_stepInvariant : StepInvariant BlocksOnGrid where
  bare _ := Iff.rfl
  latch _ _ _ hc _ := blocksOnGrid_zero rfl (configureCheck_legal hc) fun _ => rfl
  undefinedRead _ _ hs := hs
  pop _ _ _ _ _ hs := hs
  unit s _ _ _ he hs := hs.dispatchUnit (s.atEnd_eq_false_iff.1 he).2
  rewind _ hl hs _ hb := blocksOnGrid_zero rfl (hs hl hb).1 (fun _ => rfl) hl hb
  seekFailed _ hl hs _ hb := blocksOnGrid_zero rfl (hs hl hb).1 (fun h => nomatch h) hl hb
  release _ _ hl := nomatch hl
  source _ _ _ hs := hs

/-- Settles O57: a header moves the next header on by a stride, a body unit leaves it where it is, and both keep the rest of the
block a whole number of body units. -/
theorem stepsKeepTheBlocksOnTheGrid : Obligations.StepsKeepTheBlocksOnTheGrid := blocksOnGrid_stepInvariant.step

end Sys2Proof.Machine
end

section
/-! PROOF. The source request (20_memory.md R60, R62; 70_reset_and_hazards.md R286). -/

namespace Sys2Proof.Machine

/-- A source too long to describe is refused by name (log entry 2). -/
theorem serve_source_refused {bytes : List Byte} (h : 2 ^ 32 ≤ bytes.length) (s : State) :
    serve (.source bytes) s = .refused .sourceTooLong := if_pos h

/-- Any other is presented (R62). -/
theorem serve_source {bytes : List Byte} (h : bytes.length < 2 ^ 32) (s : State) :
    serve (.source bytes) s = .next (s.withSource bytes) := if_neg (Nat.not_le.2 h)

/-- A length that can be described is L (R60). -/
theorem State.withSource_srcLen {bytes : List Byte} (h : bytes.length < 2 ^ 32) (s : State) :
    (s.withSource bytes).srcLen.toNat = bytes.length := Nat.mod_eq_of_lt h

/-- The record of the broken duty (R286). -/
theorem State.withSource_srcChanged_iff (s : State) (bytes : List Byte) :
    (s.withSource bytes).srcChanged = true ↔ s.srcChanged = true ∨ (s.life = .configured ∧
      ((s.withSource bytes).src ≠ s.src ∨ (s.withSource bytes).srcLen ≠ s.srcLen)) := by
  simp only [State.withSource, State.differs, Bool.or_eq_true, Bool.and_eq_true, decide_eq_true_eq]

/-- Settles O8: by whether the source can be described. -/
theorem presentedSourceReadsBack : Obligations.PresentedSourceReadsBack := by
  intro s bytes rest hp
  rw [step_of_pending hp]
  refine ⟨fun h => serve_source_refused h _, fun h => ⟨_, serve_source h _, rfl, State.withSource_srcLen h _, ?_, ?_⟩⟩
  · intro a ha
    have := srcByte_srcOfBytes bytes 0 a ha
    rwa [Nat.zero_add] at this
  · exact State.withSource_srcChanged_iff { s with pending := rest } bytes

/-- Settles O52: no command changes SRC or L, and a presented source is canonical. -/
theorem stepsKeepTheSourceCanonical : Obligations.StepsKeepTheSourceCanonical := by
  intro s t hs h
  rcases step_cases h with ⟨-, rfl⟩ | ⟨q, rest, -, ⟨v, -, he⟩ | ⟨r, v, -, rfl⟩ | ⟨r, -, rfl⟩ | ⟨bytes, -, hb, rfl⟩⟩
  · exact hs
  · obtain ⟨-, -, hsrc, hlen, -⟩ := he.surroundingsKept
    unfold SourceCanonical
    rw [hsrc, hlen]; exact hs
  · rw [writeReg_frame]; exact hs
  · exact hs
  · have hlen := State.withSource_srcLen hb s
    change srcWf (srcOfBytes 0 bytes) (s.withSource bytes).srcLen.toNat = true
    rw [hlen]; exact srcWf_srcOfBytes bytes

end Sys2Proof.Machine
end

section
/-! PROOF. Decode and encode agree (30_encoding.md R81-R85, R96, R98, R99), each way, one encoding space at a time. -/

namespace Sys2Proof

/-- The decoder reads every instruction back from its own word. -/
@[simp] theorem decode_encode (i : Instr) : decode (encode i) = .ok i := by cases i <;> rfl

/-! ### Command words -/

/-- A command stands in the table at the OPC of its word (R81). -/
theorem encode_of_commandOf {n : Nat} {i : Instr} (h : commandOf n = some i) : encode i = .cmd (BitVec.ofNat 32 n) := by
  unfold commandOf at h
  split at h <;> cases h <;> rfl

/-- A command word that decodes has bits [31:8] zero and its OPC in the table (R81, R98). -/
theorem decodeCommand_ok {v : Word32} {i : Instr} (h : decodeCommand v = .ok i) : commandOf v.toNat = some i := by
  unfold decodeCommand at h
  split at h
  · cases h
  · rename_i hhigh
    have hopc : v.toNat % 256 = v.toNat := by omega
    rw [hopc] at h
    split at h
    · rename_i hc
      cases h; exact hc
    · cases h

/-! ### Dispatch words -/

/-- Only a variant's own code names it (R82). -/
theorem Variant.code_of_ofCode {n : Nat} {v : Variant} (h : Variant.ofCode n = some v) : v.code = n := by
  unfold Variant.ofCode at h
  split at h <;> cases h <;> rfl

/-- A body unit's word has PHASE 0 (R83, R96). -/
theorem encode_bodyUnit (v : Variant) : encode v.bodyUnit = .dw (BitVec.ofNat 8 (16 * v.code + 0)) := by cases v <;> rfl

/-- A header unit's word has PHASE 1 (R83, R96). -/
theorem encode_headerUnit {v : Variant} {i : Instr} (h : v.headerUnit = some i) :
    encode i = .dw (BitVec.ofNat 8 (16 * v.code + 1)) := by
  cases v <;> cases h <;> rfl

/-- A dispatch word is its two nibbles (R83). -/
theorem dispatchWord_eq_nibbles {w : Byte} {n p : Nat} (hn : n = w.toNat / 16) (hp : w.toNat % 16 = p) :
    BitVec.ofNat 8 (16 * n + p) = w := by
  rw [hn, ← hp, Nat.div_add_mod, BitVec.ofNat_toNat, BitVec.setWidth_eq]

/-- A dispatch word that decodes is the word of the unit it decodes to (R83, R99). -/
theorem encode_of_decodeDispatch {w : Byte} {i : Instr} (h : decodeDispatch w = .ok i) : encode i = .dw w := by
  unfold decodeDispatch at h
  split at h
  · cases h
  · rename_i v hv
    have hcode := Variant.code_of_ofCode hv
    split at h
    · rename_i hbody
      cases h
      rw [encode_bodyUnit, dispatchWord_eq_nibbles hcode hbody]
    · split at h
      · rename_i hheader
        split at h
        · rename_i hi
          cases h
          rw [encode_headerUnit hi, dispatchWord_eq_nibbles hcode hheader]
        · cases h
      · cases h

/-! ### All three encodings -/

/-- A word that decodes is the word of the instruction it decodes to. -/
theorem encode_of_decode {e : Encoded} {i : Instr} (h : decode e = .ok i) : encode i = e := by
  cases e with
  | cmd v => rw [encode_of_commandOf (decodeCommand_ok h), BitVec.ofNat_toNat, BitVec.setWidth_eq]
  | dw w => exact encode_of_decodeDispatch h
  | code f k c => cases f <;> cases h <;> rfl

/-- Settles O1: each way by a lemma of its own. -/
theorem decodeAndEncodeAgree : Obligations.DecodeAndEncodeAgree :=
  fun _ i => ⟨encode_of_decode, fun h => h ▸ decode_encode i⟩

/-- Settles O2: the decoder evaluates each word, and reads the two codes back from the encoder's words. -/
theorem wordsOfTheTablesDecode : Obligations.WordsOfTheTablesDecode :=
  ⟨rfl, rfl, rfl, rfl, rfl, rfl, rfl, rfl, rfl, rfl, rfl, decode_encode (.okiStep .one 0b1011#4),
    decode_encode (.msAdpcmStep .zero 0b1000#4)⟩

end Sys2Proof
end

section
/-! PROOF. A unit with all its bytes below LIMIT follows its row of the unit table (30_encoding.md R96), in a block whose source was
changed under the decoder too. `runUnit_moved` and `runUnit_placed` say how far a unit goes if it goes on; here it is shown that such
a unit does go on, unless it overflows. -/

namespace Sys2Proof.Machine

/-! ### Samples are appended, and no fault is raised -/

/-- FAULTREG is kept, and PEND only grows at its end. -/
def Appends (s t : State) : Prop := t.faultReg = s.faultReg ∧ s.dec.pend <+: t.dec.pend

theorem Appends.of_eq {s t : State} (hf : t.faultReg = s.faultReg) (hp : t.dec.pend = s.dec.pend) : Appends s t :=
  ⟨hf, hp ▸ List.prefix_rfl⟩

theorem Appends.refl (s : State) : Appends s s := .of_eq rfl rfl

theorem Appends.trans {s t u : State} (h : Appends s t) (h' : Appends t u) : Appends s u :=
  ⟨h'.1.trans h.1, h.2.trans h'.2⟩

section Operations
variable {r s : State} (h : Appends r s)
include h

theorem Appends.setCh (k : Chan) (c : Channel) : Appends r (s.setCh k c) :=
  h.trans (.of_eq (s.setCh_faultReg k c) (s.setCh_pend k c))
theorem Appends.emit (xs : List Sample) : Appends r (s.emit xs) := h.trans ⟨rfl, List.prefix_append ..⟩
theorem Appends.advance (n : Nat) : Appends r (s.advance n) := h
theorem Appends.consume (n : Nat) : Appends r (s.consume n) := h
theorem Appends.beginBlock (n : Nat) : Appends r (s.beginBlock n) := h
theorem Appends.setNibble (t : Bool) (b : Byte) : Appends r (s.setNibble t b) := h

theorem Appends.imaEmit (k : Chan) (c : Code) : Appends r (s.imaEmit k c) := (h.setCh k _).emit _
theorem Appends.okiEmit (k : Chan) (c : Code) : Appends r (s.okiEmit k c) := (h.setCh k _).emit _
theorem Appends.msimaEmit (k : Chan) (c : Code) : Appends r (s.msimaEmit k c) := (h.setCh k _).emit _

theorem Appends.msEmit {k : Chan} {c : Code} {t : State} (ht : s.msEmit k c = some t) : Appends r t := by
  unfold State.msEmit at ht
  split at ht
  · cases ht
  · cases ht; exact (h.setCh k _).emit _

theorem Appends.nextNibState : Appends r (nextNibState s) := by
  unfold Machine.nextNibState
  split <;> exact h

theorem Appends.dk3Step (k : Chan) : Appends r (s.dk3Step k) := h.nextNibState.setCh k _
theorem Appends.dk3Emit : Appends r s.dk3Emit := h.emit _

end Operations

section Rules
variable {r s : State} (h : Appends r s)
include h

theorem Appends.imaStreamBody (o : NibbleOrder) : Appends r (imaStreamBody o s) :=
  ((h.advance 1).imaEmit _ _).imaEmit _ _

theorem Appends.appleLoad : Appends r (appleLoad s) := by
  unfold Machine.appleLoad
  split
  · exact (h.setCh _ _).setCh _ _
  · exact h.setCh _ _

theorem Appends.appleSkip : Appends r (appleSkip s) := by
  unfold Machine.appleSkip
  split <;> exact h

theorem Appends.appleBody : Appends r (if s.isStereo then appleStereoBody s else appleMonoBody s) := by
  split
  · exact ((((((h.imaEmit _ _).imaEmit _ _).imaEmit _ _).imaEmit _ _).advance 1).consume 1).appleSkip
  · exact (((h.imaEmit _ _).imaEmit _ _).advance 1).consume 1

theorem Appends.dk3SdBody : Appends r (dk3SdBody s) := ((h.dk3Step .zero).dk3Step .one).dk3Emit

theorem Appends.dk3SdsBody : Appends r (dk3SdsBody s) := (h.dk3SdBody.dk3Step .zero).dk3Emit

theorem Appends.msHeader : Appends r (if s.isStereo then msStereoHeader s else msMonoHeader s) := by
  split
  · exact ((h.setCh _ _).setCh _ _).emit _
  · exact (h.setCh _ _).emit _

theorem Appends.msBodyCodes {t : State} (ht : msBodyCodes s = some t) : Appends r t := by
  simp only [Machine.msBodyCodes] at ht
  split at ht
  · cases ht
  · rename_i u hu
    exact (h.msEmit hu).msEmit ht

end Rules

/-! ### Units that go on -/

/-- The unit `i` passes the bytes of its row, appends to PEND and raises no fault (R96, R121). -/
def GoesOn (i : Instr) (s t : State) : Prop :=
  t.cursor = BitVec.ofNat 32 (s.cursor.toNat + unitAdvance i s) ∧ Appends s t

/-- The unit `i` overflows: nothing but FAULTREG is written, but a draw may be taken (R232; log entry 25). -/
def Overflows (i : Instr) (s t : State) : Prop := i = .msAdpcmBody ∧ t = { s with faultReg := 2#4, draws := t.draws }

theorem unitAdvance_withSrc (i : Instr) (s : State) (src : List Host.Cell) :
    unitAdvance i { s with src := src } = unitAdvance i s := by cases i <;> rfl

/-- Where its bytes are below LIMIT, a unit goes on or overflows as its rule does. -/
theorem performUnit_goesOn {i : Instr} {offs : List Nat} {body : State → State} {s : State} (ho : offs = unitOffsets i s)
    (ha : ∀ o ∈ unitOffsets i s, s.cursor.toNat + o < s.limit)
    (h : ∀ u, GoesOn i u (body u) ∨ i = .msAdpcmBody ∧ body u = u.raise .deltaOverflow) :
    GoesOn i s (performUnit offs body s) ∨ Overflows i s (performUnit offs body s) := by
  subst ho
  cases hc : s.srcChanged
  · rw [performUnit_available body hc ha]
    exact (h s).imp_right fun ⟨hi, e⟩ => ⟨hi, by rw [e]; rfl⟩
  · rw [performUnit_unpredictable body hc ha]
    rcases h { s with src := s.freeSource (unitOffsets i s) } with ⟨hcursor, hfault, -⟩ | ⟨hi, e⟩
    · rw [unitAdvance_withSrc] at hcursor
      exact .inl ⟨hcursor, hfault, List.prefix_append ..⟩
    · refine .inr ⟨hi, ?_⟩
      rw [e]
      simp [State.unpredictable, State.raise, FaultCode.code, freeSamples]

theorem runUnit_goesOn {i : Instr} {s : State} (hi : i.isUnit = true)
    (ha : ∀ o ∈ unitOffsets i s, s.cursor.toNat + o < s.limit) :
    GoesOn i s (runUnit i s) ∨ Overflows i s (runUnit i s) := by
  cases i with
  | okiBody =>
    unfold runUnit okiBody
    refine performUnit_goesOn rfl ha fun u => .inl ⟨?_, (((Appends.refl u).advance 1).okiEmit _ _).okiEmit _ _⟩
    exact (((u.advance_moved 1).trans (State.okiEmit_moved ..)).trans (State.okiEmit_moved ..)).1
  | imaGenericBody =>
    unfold runUnit imaGenericBody
    exact performUnit_goesOn rfl ha fun u => .inl ⟨(imaStreamBody_moved u _).1, (Appends.refl u).imaStreamBody _⟩
  | dviBody =>
    unfold runUnit dviBody
    exact performUnit_goesOn rfl ha fun u => .inl ⟨(imaStreamBody_moved u _).1, (Appends.refl u).imaStreamBody _⟩
  | appleImaHeader =>
    unfold runUnit appleImaHeader
    refine performUnit_goesOn rfl ha fun u => .inl ⟨?_, ((Appends.refl u).appleLoad.advance 2).beginBlock 2⟩
    exact ((appleLoad_moved u).trans (State.advance_moved _ 2)).1
  | appleImaBody =>
    unfold runUnit appleImaBody
    exact performUnit_goesOn rfl ha fun u => .inl ⟨(appleBody_moved u).1, (Appends.refl u).appleBody⟩
  | msimaMonoHeader =>
    unfold runUnit msimaMonoHeader
    refine performUnit_goesOn (by rfl) ha fun u => .inl ⟨rfl, ?_⟩
    exact ((((Appends.refl u).setCh .zero _).emit _).advance 4).beginBlock 4
  | msimaMonoBody =>
    unfold runUnit msimaMonoBody
    refine performUnit_goesOn rfl ha fun u => .inl ⟨rfl, ?_⟩
    exact ((((Appends.refl u).msimaEmit _ _).msimaEmit _ _).advance 1).consume 1
  | msimaStereoHeader =>
    unfold runUnit msimaStereoHeader
    refine performUnit_goesOn (by rfl) ha fun u => .inl ⟨rfl, ?_⟩
    exact (((((Appends.refl u).setCh .zero _).setCh .one _).emit _).advance 8).beginBlock 8
  | msimaStereoBody =>
    unfold runUnit msimaStereoBody
    refine performUnit_goesOn (by rfl) ha fun u => .inl ⟨((u.loadBoth_moved _ _ _ 8).trans (State.consume_moved _ 8)).1, ?_⟩
    exact (((((Appends.refl u).setCh .zero _).setCh .one _).emit _).advance 8).consume 8
  | dk3Header =>
    unfold runUnit dk3Header
    refine performUnit_goesOn rfl ha fun u => .inl ⟨rfl, ?_⟩
    exact (((((Appends.refl u).setCh .zero _).setCh .one _).setNibble _ _).advance 16).beginBlock 16
  | dk3Body =>
    unfold runUnit dk3Body
    refine performUnit_goesOn (dk3BodyOffsets_eq s) ha fun u => .inl ?_
    unfold GoesOn unitAdvance dk3UnitBytes
    dsimp only
    cases u.cfg.dk3Schedule
    · exact ⟨(dk3SdsBody_moved u).1, (Appends.refl u).dk3SdsBody⟩
    · exact ⟨(dk3SdBody_moved u).1, (Appends.refl u).dk3SdBody⟩
  | msAdpcmHeader =>
    unfold runUnit msAdpcmHeader
    refine performUnit_goesOn rfl ha fun u => .inl ⟨?_, ((Appends.refl u).msHeader.advance _).beginBlock _⟩
    exact ((msHeader_moved u).trans (State.advance_moved ..) (Nat.zero_add _)).1
  | msAdpcmBody =>
    unfold runUnit msAdpcmBody
    refine performUnit_goesOn rfl ha fun u => ?_
    split
    · exact .inr ⟨rfl, rfl⟩
    · rename_i t ht
      refine .inl ⟨?_, (((Appends.refl u).msBodyCodes ht).advance 1).consume 1⟩
      exact ((msBodyCodes_moved u ht).trans (t.advance_moved 1)).1
  | configure | readBuffer | endOfData | isStereo | getRate | rewind | release => cases hi
  | imaStep | okiStep | msAdpcmStep => cases hi

/-! ### The row of the unit table -/

theorem dk3UnitBytes_pos (s : State) : 0 < dk3UnitBytes s := by
  unfold dk3UnitBytes
  cases s.cfg.dk3Schedule <;> cases s.dec.topNib <;> decide

theorem State.unitChannels_pos (s : State) : 0 < s.unitChannels := by
  unfold State.unitChannels; split <;> decide

/-- Every unit reads the byte at CURSOR (R96). -/
theorem zero_mem_unitOffsets {i : Instr} (hi : i.isUnit = true) (s : State) : 0 ∈ unitOffsets i s := by
  cases i with
  | okiBody | imaGenericBody | dviBody | msimaMonoBody | msAdpcmBody => exact List.mem_singleton_self 0
  | appleImaHeader | appleImaBody => unfold unitOffsets; dsimp only; split <;> exact List.mem_cons_self
  | msimaMonoHeader | msimaStereoHeader | msimaStereoBody | dk3Header => exact List.mem_range.2 (by decide)
  | dk3Body => exact List.mem_range.2 (dk3UnitBytes_pos s)
  | msAdpcmHeader => exact List.mem_range.2 (Nat.mul_pos (by decide) s.unitChannels_pos)
  | configure | readBuffer | endOfData | isStereo | getRate | rewind | release => cases hi
  | imaStep | okiStep | msAdpcmStep => cases hi

/-- Every unit passes at least one byte (R96, R125). -/
theorem unitAdvance_pos {i : Instr} (hi : i.isUnit = true) (s : State) : 0 < unitAdvance i s := by
  cases i with
  | okiBody | imaGenericBody | dviBody | msimaMonoBody | msAdpcmBody => exact Nat.one_pos
  | appleImaHeader | msimaMonoHeader | msimaStereoHeader | msimaStereoBody | dk3Header => exact Nat.succ_pos _
  | appleImaBody => unfold unitAdvance; dsimp only; split <;> omega
  | dk3Body => exact dk3UnitBytes_pos s
  | msAdpcmHeader => exact Nat.mul_pos (by decide) s.unitChannels_pos
  | configure | readBuffer | endOfData | isStereo | getRate | rewind | release => cases hi
  | imaStep | okiStep | msAdpcmStep => cases hi

/-- A unit that goes on has passed bytes, so it has moved and stands as its row says. -/
theorem GoesOn.row {i : Instr} {s : State} (hi : i.isUnit = true)
    (ha : ∀ o ∈ unitOffsets i s, s.cursor.toNat + o < s.limit) (h : GoesOn i s (runUnit i s)) :
    (runUnit i s).cursor.toNat = s.cursor.toNat + unitAdvance i s ∧ (runUnit i s).dec.blockRem = unitBlockRem i s ∧
      ∃ xs, (runUnit i s).dec.pend = s.dec.pend ++ xs ∧ xs.length = unitSamples i s := by
  obtain ⟨hc, -, xs, hxs⟩ := h
  have hcursor := cursor_of_unitPlace (ha 0 (zero_mem_unitOffsets hi s)) ha hc
  have hpos := unitAdvance_pos hi s
  have hne : (runUnit i s).cursor ≠ s.cursor := fun e => by rw [e] at hcursor; omega
  obtain ⟨-, hlen⟩ := ((runUnit_moved i s).resolve_left fun hm => hne (by simpa using hm.1)).2
  have hplace := ((runUnit_placed i s).resolve_left fun hp => hne (State.place_eq_iff.1 hp).1).2
  refine ⟨hcursor, (State.place_eq_iff.1 hplace).2.1, xs, hxs.symm, ?_⟩
  rw [← hxs, List.length_append] at hlen
  omega

/-- Settles O32: a unit with its bytes below LIMIT overflows, or goes on and so follows its row. -/
theorem unitsFollowTheUnitTable : Obligations.UnitsFollowTheUnitTable := by
  intro i s hi hf ha
  refine ⟨_, exec_unit hi s, (runUnit_goesOn hi ha).imp_left fun h => ?_⟩
  have ⟨_, hfault, _⟩ := h
  exact ⟨hfault.trans hf, h.row hi ha⟩

end Sys2Proof.Machine
end

section
/-! PROOF. The host commands other than READ_BUFFER: the pre-checks of 40_commands.md R111, CONFIGURE with its checks in the order of
60_exceptions.md R258, the queries, REWIND and RELEASE. -/

namespace Sys2Proof.Machine

/-! ### The pre-checks -/

/-- A word whose bits [31:8] are zero and whose OPC is in the table is a command; OPC 1 is CONFIGURE (R81). -/
theorem decodeCommand_of_legal {v : Word32} (h : ¬(v.toNat / 256 ≠ 0 ∨ v.toNat % 256 = 0 ∨ 8 ≤ v.toNat % 256)) :
    ∃ i, decodeCommand v = .ok i ∧ (v.toNat % 256 = 1 ↔ i = .configure) := by
  simp only [not_or, not_not, not_le] at h
  obtain ⟨hhigh, h0, h8⟩ := h
  unfold decodeCommand
  rw [if_neg (not_not.2 hhigh)]
  interval_cases v.toNat % 256
  · exact absurd rfl h0
  all_goals exact ⟨_, rfl, by decide⟩

/-- A word with a bit above OPC, or with a reserved OPC, is no command (R98). -/
theorem decodeCommand_of_illegal {v : Word32} (h : v.toNat / 256 ≠ 0 ∨ v.toNat % 256 = 0 ∨ 8 ≤ v.toNat % 256) :
    ∃ e, decodeCommand v = .error e := by
  unfold decodeCommand
  by_cases hhigh : v.toNat / 256 = 0
  · rw [if_neg (not_not.2 hhigh)]
    have hnone : commandOf (v.toNat % 256) = none := by
      unfold commandOf
      split <;> first | rfl | omega
    rw [hnone]
    exact ⟨_, rfl⟩
  · exact ⟨_, if_pos hhigh⟩

/-- The lifecycle state a command needs: CONFIGURE the unconfigured one, every other command the configured one (R111). -/
def lifeNeeded (i : Instr) : Life := if i = .configure then .unconfigured else .configured

/-- Every command meets the pre-checks before its own rule (R110, R111). -/
theorem exec_preChecked {i : Instr} (hi : i.isCommand = true) :
    ∃ body, ∀ s, exec i s = .next (preChecked (lifeNeeded i) body s) := by
  cases i with
  | configure | readBuffer | endOfData | isStereo | getRate | rewind | release => exact ⟨_, fun _ => rfl⟩
  | _ => cases hi

/-- An unfaulted block refuses a command that needs the other lifecycle state (R111). -/
theorem preChecked_refused {need : Life} {s : State} (body : State → State) (hf : s.faultReg = 0#4) (hl : s.life ≠ need) :
    preChecked need body s = s.refuse (if need = .unconfigured then .cmdAlreadyConfigured else .cmdNotConfigured) := by
  unfold preChecked
  rw [s.isFaulted_eq_false_iff.2 hf, if_neg Bool.false_ne_true, if_neg hl]
  cases need <;> rfl

/-- A faulted block refuses every command (R111, R256). -/
theorem preChecked_faulted {need : Life} {s : State} (body : State → State) (hf : s.faultReg ≠ 0#4) :
    preChecked need body s = s.refuse .cmdFaulted := by
  unfold preChecked
  rw [if_pos (s.isFaulted_eq_true_iff.2 hf)]

/-- An unfaulted block refuses a word that is no command (R98, R111). -/
theorem serve_illegal {v : Word32} {e : DecodeError} {s : State} (hf : s.faultReg = 0#4) (h : decodeCommand v = .error e) :
    serve (.write 0#4 v) s = .next (s.refuse .cmdIllegal) := by
  simp [serve, commandWord, runCommandWord, h, illegalCommand, s.isFaulted_eq_false_iff.2 hf]

/-- A faulted block refuses whatever word is written to CMD (R111). -/
theorem serve_faulted {s : State} (hf : s.faultReg ≠ 0#4) (v : Word32) :
    serve (.write 0#4 v) s = .next (s.refuse .cmdFaulted) := by
  cases hd : decodeCommand v with
  | error e => simp [serve, commandWord, runCommandWord, hd, illegalCommand, s.isFaulted_eq_true_iff.2 hf]
  | ok i =>
    obtain ⟨body, he⟩ := exec_preChecked (decodeCommand_isCommand hd)
    rw [serve_command hd, he, preChecked_faulted body hf]

/-- An unfaulted block refuses a command in the wrong lifecycle state (R111). -/
theorem serve_wrongLife {s : State} {v : Word32} {i : Instr} (hf : s.faultReg = 0#4) (hd : decodeCommand v = .ok i)
    (hl : s.life ≠ lifeNeeded i) :
    serve (.write 0#4 v) s =
      .next (s.refuse (if lifeNeeded i = .unconfigured then .cmdAlreadyConfigured else .cmdNotConfigured)) := by
  obtain ⟨body, he⟩ := exec_preChecked (decodeCommand_isCommand hd)
  rw [serve_command hd, he, preChecked_refused body hf hl]

/-- Settles O5: the fault, the word, the lifecycle, each by its lemma; what passes is the command itself. -/
theorem preChecksInOrder : Obligations.PreChecksInOrder := by
  intro s v rest hp p refused illegal
  rw [show step s = serve (.write 0#4 v) p from step_of_pending hp]
  refine ⟨fun hf => serve_faulted (s := p) hf v, fun hf hill => ?_, fun hf hleg hv hl => ?_, fun hf hleg hv hl => ?_,
    fun _ hleg _ => ?_⟩
  · obtain ⟨e, hd⟩ := decodeCommand_of_illegal hill
    exact serve_illegal (s := p) hf hd
  · obtain ⟨i, hd, hi⟩ := decodeCommand_of_legal hleg
    cases hi.1 hv
    have hwrong : p.life ≠ lifeNeeded .configure := by rw [show p.life = _ from hl]; decide
    rw [serve_wrongLife (s := p) hf hd hwrong]; rfl
  · obtain ⟨i, hd, hi⟩ := decodeCommand_of_legal hleg
    have hneed : lifeNeeded i = .configured := if_neg (mt hi.2 hv)
    have hwrong : p.life ≠ lifeNeeded i := by rw [hneed, show p.life = _ from hl]; decide
    rw [serve_wrongLife (s := p) hf hd hwrong, hneed]; rfl
  · obtain ⟨i, hd, -⟩ := decodeCommand_of_legal hleg
    exact ⟨i, hd, serve_command hd p⟩

/-! ### The commands past their pre-checks -/

section Passed
variable {s : State} (hf : s.faultReg = 0#4)
include hf

theorem exec_configure (hl : s.life = .unconfigured) : exec .configure s = .next (configureBody s) :=
  congrArg Host.Outcome.next (preChecked_pass _ hf hl)
theorem exec_readBuffer (hl : s.life = .configured) : exec .readBuffer s = .next (readBufferBody s) :=
  congrArg Host.Outcome.next (preChecked_pass _ hf hl)
theorem exec_endOfData (hl : s.life = .configured) : exec .endOfData s = .next (endOfDataBody s) :=
  congrArg Host.Outcome.next (preChecked_pass _ hf hl)
theorem exec_isStereo (hl : s.life = .configured) :
    exec .isStereo s = .next (s.finish (boolResult s.isStereo) false .none) :=
  congrArg Host.Outcome.next (preChecked_pass _ hf hl)
theorem exec_getRate (hl : s.life = .configured) : exec .getRate s = .next (s.finish s.conf.rate false .none) :=
  congrArg Host.Outcome.next (preChecked_pass _ hf hl)
theorem exec_rewind (hl : s.life = .configured) :
    exec .rewind s = .next (rewindWith (Config.seekOk s.draws) s.drawn) :=
  congrArg Host.Outcome.next (preChecked_pass _ hf hl)
theorem exec_release (hl : s.life = .configured) : exec .release s = .next (releaseBody s) :=
  congrArg Host.Outcome.next (preChecked_pass _ hf hl)

end Passed

/-! ### CONFIGURE -/

/-- BLOCKED, written out (R112). -/
theorem isBlocked_iff (v : Variant) :
    isBlocked v = true ↔ v ∈ [.appleIma, .msimaMono, .msimaStereo, .dk3, .msAdpcm] := by cases v <;> decide

/-- INVERT is legal for the two MSIMA variants (R112). -/
theorem invertAllowed_iff (v : Variant) : invertAllowed v = true ↔ v = .msimaMono ∨ v = .msimaStereo := by
  cases v <;> decide

/-- A variant is read from its own code (R82). -/
theorem ofCode_code (v : Variant) : Variant.ofCode v.code = some v := by cases v <;> rfl

/-- The reserved bits of A_FLAGS stand from bit 2 on (R38). -/
theorem flagReserved_ne_zero_iff (f : Word32) : flagReserved f ≠ 0 ↔ 4 ≤ f.toNat := by
  unfold flagReserved; omega

/-- A channel count is read from its number (R103). -/
theorem argChannels_of_count {w : Word32} {n : ChannelCount} (h : w.toNat = n.count) (hn : n ≠ .none) :
    argChannels w = some n := by
  unfold argChannels
  rw [h]
  cases n
  case none => exact absurd rfl hn
  all_goals rfl

/-- A number other than 1 and 2 is no channel count (R103). -/
theorem argChannels_eq_none {w : Word32} (h : w.toNat ≠ 1 ∧ w.toNat ≠ 2) : argChannels w = none := by
  unfold argChannels
  split
  · exact absurd ‹_› h.1
  · exact absurd ‹_› h.2
  · rfl

/-- The channel count that A_CHANNELS gives when it is legal (R103). -/
theorem argChannels_eq_some {w : Word32} (h : ¬(w.toNat ≠ 1 ∧ w.toNat ≠ 2)) :
    argChannels w = some (if w.toNat = 2 then .stereo else .mono) := by
  by_cases h2 : w.toNat = 2
  · rw [if_pos h2]; exact argChannels_of_count h2 nofun
  · rw [if_neg h2]; exact argChannels_of_count (n := .mono) (by simp only [ChannelCount.count]; omega) nofun

/-- The variants tied to a channel count, by the number of channels (R112). -/
theorem channelsAllowed_eq_false_iff (v : Variant) {w : Word32} (h : ¬(w.toNat ≠ 1 ∧ w.toNat ≠ 2)) :
    channelsAllowed v (if w.toNat = 2 then .stereo else .mono) = false ↔
      (v = .dk3 ∧ w.toNat ≠ 2) ∨ (v = .msimaMono ∧ w.toNat ≠ 1) ∨ (v = .msimaStereo ∧ w.toNat ≠ 2) := by
  have hw : w.toNat = 1 ∨ w.toNat = 2 := by omega
  rcases hw with hw | hw <;> rw [hw] <;> cases v <;> decide

/-- CONFIGURE in an unfaulted, unconfigured block whose arguments pass (R112). -/
theorem exec_configure_ok {s : State} {cf : ActiveConf} (hf : s.faultReg = 0#4) (hl : s.life = .unconfigured)
    (hc : configureCheck s.cfg s.args = .ok cf) : exec .configure s = .next ((s.latch cf).finish 1#32 false .none) := by
  refine (exec_configure hf hl).trans ?_
  unfold configureBody; rw [hc]

/-- CONFIGURE in an unfaulted, unconfigured block whose arguments do not pass (R251). -/
theorem exec_configure_error {s : State} {e : Err} (hf : s.faultReg = 0#4) (hl : s.life = .unconfigured)
    (hc : configureCheck s.cfg s.args = .error e) : exec .configure s = .next (s.finish 0#32 false e) := by
  refine (exec_configure hf hl).trans ?_
  unfold configureBody; rw [hc]

/-- Settles O9: each hypothesis passes one check of R112. -/
theorem configureLatchesTheArguments : Obligations.ConfigureLatchesTheArguments := by
  intro s v n hf hl hflags hv hn hn0 hallowed hinvert hblocked hrange u
  refine exec_configure_ok (cf := u.conf) hf hl ?_
  have hreserved : ¬flagReserved s.args.flags ≠ 0 := mt (flagReserved_ne_zero_iff _).1 (by omega)
  have hinv : ¬(flagInvert s.args.flags && !invertAllowed v) = true := by
    simpa [flagInvert, invertAllowed_iff] using hinvert
  have hzero : ¬(isBlocked v && decide (s.args.blockAlign = 0#32)) = true := by
    simpa using fun hb => (hblocked ((isBlocked_iff v).1 hb)).1
  have hgeometry : ¬(isBlocked v && !geometryOK s.cfg v n s.args.blockAlign.toNat) = true := by
    simpa using fun hb => (hblocked ((isBlocked_iff v).1 hb)).2
  unfold configureCheck
  simp only [if_neg hreserved, hv, ofCode_code, argChannels_of_count hn hn0, hallowed, Bool.not_true, Bool.false_eq_true,
    if_false, if_neg hinv, if_neg hzero, if_neg hgeometry, if_neg (Nat.not_lt.2 hrange)]
  rfl

/-- Settles O10: the guards of the statement are, one by one, the guards of the model. -/
theorem configureReportsTheFirstFailure : Obligations.ConfigureReportsTheFirstFailure := by
  intro s hf hl
  dsimp only
  intro e he
  refine exec_configure_error hf hl ?_
  unfold configureCheck
  simp only [flagReserved_ne_zero_iff]
  split at he
  · cases he; rw [if_pos ‹_›]
  rw [if_neg ‹_›]
  cases hv : Variant.ofCode s.args.variant.toNat with
  | none => rw [hv] at he; cases he; rfl
  | some v =>
  rw [hv] at he
  dsimp only at he ⊢
  split at he
  · rename_i hn; cases he; rw [argChannels_eq_none hn]
  rename_i hn
  have hinvert : (flagInvert s.args.flags && !invertAllowed v) = true ↔
      s.args.flags.getLsbD 0 = true ∧ v ≠ .msimaMono ∧ v ≠ .msimaStereo := by
    simp [flagInvert, ← Bool.not_eq_true, invertAllowed_iff]
  have hzero : s.args.blockAlign = 0#32 ↔ s.args.blockAlign.toNat = 0 := by simp [← BitVec.toNat_inj]
  simp only [argChannels_eq_some hn, Bool.not_eq_true', channelsAllowed_eq_false_iff v hn, hinvert, Bool.and_eq_true,
    decide_eq_true_eq, hzero]
  generalize (if s.args.channels.toNat = 2 then ChannelCount.stereo else .mono) = n at he ⊢
  split_ifs at he ⊢ <;> cases he <;> rfl

/-- Settles O11: the rows of the table. -/
theorem geometryOfEachVariant : Obligations.GeometryOfEachVariant := by
  intro c n ba
  refine ⟨decide_eq_true_iff, decide_eq_true_iff, ?stereo, fun h => ?sds, fun h => ?sd, decide_eq_true_iff⟩
  all_goals simp only [geometryOK, Bool.and_eq_true, decide_eq_true_eq]
  case sds | sd => rw [h]; rfl

/-! ### The queries -/

/-- Settles O19: count by count. -/
theorem isStereoAnswersTheChannelCount : Obligations.IsStereoAnswersTheChannelCount := by
  intro s hf hl
  rw [exec_isStereo hf hl]
  unfold State.isStereo
  cases s.conf.channels <;> rfl

/-- Settles O20: the rule of GET_RATE, past the pre-checks. -/
theorem getRateAnswersTheRate : Obligations.GetRateAnswersTheRate := fun _ hf hl => exec_getRate hf hl

/-- endOfData(), written out (R124). -/
theorem endOfData_iff (s : State) :
    s.endOfData = true ↔ s.dec.pend = [] ∧ (s.dec.eodLatch = true ∨ s.limit ≤ s.cursor.toNat) := by
  simp [State.endOfData, State.atEnd]

/-- At an undefined position STATUS.EOD reads 0 (R40). -/
theorem statusNow_eod_of_undefined {s : State} (h : s.cursorValid = false) (short : Bool) (err : Err) :
    (s.statusNow short err).getLsbD 1 = false := by
  obtain ⟨-, heod, -⟩ := statusWord_flags s.isConfigured (s.isConfigured && s.cursorValid && s.endOfData)
    (s.isConfigured && s.isStereo) short (s.isConfigured && s.cursorValid) s.isFaulted err.code
  exact heod.trans (by simp [h])

/-- Settles O18: endOfData() at a defined position, a draw at an undefined one. -/
theorem endOfDataAnswers : Obligations.EndOfDataAnswers := by
  intro s hf hl
  rw [exec_endOfData hf hl]
  unfold endOfDataBody
  refine ⟨fun hv => ?_, fun hv => ⟨?_, statusNow_eod_of_undefined hv ..⟩⟩
  · rw [if_pos hv]
    unfold boolResult
    simp only [endOfData_iff]
    rfl
  · rw [if_neg (Bool.eq_false_iff.1 hv)]; rfl

/-! ### REWIND and RELEASE -/

/-- Settles O21: by the outcome of the seek. -/
theorem rewindResetsAndSeeks : Obligations.RewindResetsAndSeeks := by
  intro s hf hl ok failed
  rw [exec_rewind hf hl]
  cases Config.seekOk s.draws <;> rfl

/-- Settles O22: the rule of RELEASE, past the pre-checks. -/
theorem releaseBlanksTheBlock : Obligations.ReleaseBlanksTheBlock := fun _ hf hl => exec_release hf hl

end Sys2Proof.Machine
end

section
/-! PROOF. The engine: the dispatch word, and what every unit can do and leaves alone (40_commands.md R121-R123). -/

namespace Sys2Proof.Machine

/-! ### The dispatch word -/

/-- The word in terms of its two nibbles, which fit a byte (R82, R83). -/
theorem dispatchWord_toNat (s : State) : s.dispatchWord.toNat = 16 * s.conf.variant.code + s.phase := by
  have hcode : s.conf.variant.code ≤ 7 := by cases s.conf.variant <;> decide
  have hphase : s.phase ≤ 1 := by unfold State.phase; split <;> decide
  simp only [State.dispatchWord, BitVec.toNat_ofNat]
  omega

/-- PHASE is 1 exactly when a header is due (R122). -/
theorem phase_eq (s : State) : s.phase = if isBlocked s.conf.variant = true ∧ s.dec.blockRem = 0#32 then 1 else 0 := by
  simp [State.phase]

/-- The engine's word decodes to a unit of the active variant (R99, R122). -/
theorem decodeDispatch_dispatchWord (s : State) :
    ∃ i, decodeDispatch s.dispatchWord = .ok i ∧ i.isUnit = true ∧ i.formedUnder s.conf.variant = true := by
  unfold State.dispatchWord
  rw [phase_eq]
  split
  · rename_i h
    obtain ⟨hb, -⟩ := h
    obtain ⟨i, hi, hd⟩ := decodeDispatch_header _ hb
    refine ⟨i, hd, ?_⟩
    cases hv : s.conf.variant <;> rw [hv] at hi <;> cases hi <;> exact ⟨rfl, rfl⟩
  · refine ⟨_, decodeDispatch_body _, ?_⟩
    cases s.conf.variant <;> exact ⟨rfl, rfl⟩

/-- Settles O3: the word by its PHASE, and the unit it decodes to. -/
theorem dispatchWordNamesTheDueUnit : Obligations.DispatchWordNamesTheDueUnit := by
  intro s
  simp only [← isBlocked_iff, dispatchWord_toNat, phase_eq]
  refine ⟨fun h => ?_, fun h => ?_, decodeDispatch_dispatchWord s⟩
  · rw [if_pos h]; omega
  · rw [if_neg h]; omega

/-! ### Units -/

/-- A unit with a byte at or above LIMIT sets EODLATCH, whatever its rule (R123). -/
theorem runUnit_cutOff {i : Instr} {s : State} {o : Nat} (hi : i.isUnit = true) (ho : o ∈ unitOffsets i s)
    (h : s.limit ≤ s.cursor.toNat + o) : runUnit i s = s.latchEnd := by
  cases i with
  | okiBody | imaGenericBody | dviBody | appleImaHeader | appleImaBody | msimaMonoHeader | msimaMonoBody
  | msimaStereoHeader | msimaStereoBody | dk3Header | msAdpcmHeader | msAdpcmBody =>
    simp only [runUnit, okiBody, imaGenericBody, dviBody, appleImaHeader, appleImaBody, msimaMonoHeader, msimaMonoBody,
      msimaStereoHeader, msimaStereoBody, dk3Header, msAdpcmHeader, msAdpcmBody]
    exact performUnit_cutOff _ ho h
  | dk3Body => unfold runUnit dk3Body; exact performUnit_cutOff _ (dk3BodyOffsets_eq s ▸ ho) h
  | configure | readBuffer | endOfData | isStereo | getRate | rewind | release => cases hi
  | imaStep | okiStep | msAdpcmStep => cases hi

/-- Settles O31: the unit check comes before the rule. -/
theorem cutOffUnitOnlyLatchesTheEnd : Obligations.CutOffUnitOnlyLatchesTheEnd := by
  rintro i s hi ⟨o, ho, h⟩
  rw [exec_unit hi, runUnit_cutOff hi ho h]; rfl

/-- What a unit can do: its bytes reach LIMIT and it only sets EODLATCH; it goes on; or it overflows (R121, R123, R232). -/
theorem runUnit_outcome {i : Instr} (hi : i.isUnit = true) (s : State) :
    runUnit i s = s.latchEnd ∨ (∀ o ∈ unitOffsets i s, s.cursor.toNat + o < s.limit) ∧
      (GoesOn i s (runUnit i s) ∨ Overflows i s (runUnit i s)) := by
  by_cases ha : ∀ o ∈ unitOffsets i s, s.cursor.toNat + o < s.limit
  · exact .inr ⟨ha, runUnit_goesOn hi ha⟩
  · push Not at ha
    obtain ⟨o, ho, h⟩ := ha
    exact .inl (runUnit_cutOff hi ho h)

/-! ### The latches of the decoder -/

/-- EODLATCH, and the half-byte cursor TOPNIB and LASTBYTE (R29, R32). -/
def State.latches (s : State) : Bool × Bool × Byte := (s.dec.eodLatch, s.dec.topNib, s.dec.lastByte)

/-- The unit `i` leaves EODLATCH alone, and the half-byte cursor too if it is no DK3 unit. -/
def KeepsLatches (i : Instr) (s t : State) : Prop :=
  t.dec.eodLatch = s.dec.eodLatch ∧ (i ≠ .dk3Header → i ≠ .dk3Body → t.latches = s.latches)

theorem KeepsLatches.of_latches {i : Instr} {s t : State} (h : t.latches = s.latches) : KeepsLatches i s t :=
  ⟨congrArg Prod.fst h, fun _ _ => h⟩

section Latches
variable (s : State) (k : Chan) (c : Code)

@[simp] theorem State.setCh_latches (ch : Channel) : (s.setCh k ch).latches = s.latches := by cases k <;> rfl
@[simp] theorem State.setPend_latches (p : List Sample) : (s.setPend p).latches = s.latches := rfl
@[simp] theorem State.setBlockRem_latches (r : Word32) : (s.setBlockRem r).latches = s.latches := rfl
@[simp] theorem State.advance_latches (n : Nat) : (s.advance n).latches = s.latches := rfl
@[simp] theorem appleSkip_latches : (appleSkip s).latches = s.latches := by unfold State.latches; rw [appleSkip_dec]
@[simp] theorem State.imaEmit_latches : (s.imaEmit k c).latches = s.latches := s.setCh_latches k _
@[simp] theorem State.okiEmit_latches : (s.okiEmit k c).latches = s.latches := s.setCh_latches k _
@[simp] theorem State.msimaEmit_latches : (s.msimaEmit k c).latches = s.latches := s.setCh_latches k _

theorem State.msEmit_latches {t : State} (h : s.msEmit k c = some t) : t.latches = s.latches := by
  unfold State.msEmit at h
  split at h
  · cases h
  · cases h; exact s.setCh_latches k _

/-- Both channels loaded, samples pushed, and the bytes of a group passed. -/
theorem State.group_latches (c0 c1 : Channel) (xs : List Sample) (n : Nat) :
    (((((s.setCh .zero c0).setCh .one c1).emit xs).advance n).consume n).latches = s.latches := rfl

theorem imaStreamBody_latches (o : NibbleOrder) : (imaStreamBody o s).latches = s.latches := by
  simp [imaStreamBody]

theorem appleBody_latches : (if s.isStereo then appleStereoBody s else appleMonoBody s).latches = s.latches := by
  split
  · simp [appleStereoBody]
  · simp [appleMonoBody]

theorem msBodyCodes_latches {t : State} (h : msBodyCodes s = some t) : t.latches = s.latches := by
  simp only [msBodyCodes] at h
  split at h
  · cases h
  · rename_i u hu
    exact (u.msEmit_latches _ _ h).trans (s.msEmit_latches _ _ hu)

theorem nextNibState_eodLatch : (nextNibState s).dec.eodLatch = s.dec.eodLatch := by
  unfold nextNibState; split <;> rfl

@[simp] theorem State.dk3Step_eodLatch : (s.dk3Step k).dec.eodLatch = s.dec.eodLatch :=
  (State.setCh_eodLatch ..).trans (nextNibState_eodLatch s)

@[simp] theorem State.dk3Emit_eodLatch : s.dk3Emit.dec.eodLatch = s.dec.eodLatch := rfl

end Latches

/-- A unit that is performed keeps the latches its rule keeps. -/
theorem performUnit_latches {i : Instr} {offs : List Nat} {body : State → State} {s : State} (ho : offs = unitOffsets i s)
    (ha : ∀ o ∈ unitOffsets i s, s.cursor.toNat + o < s.limit) (h : ∀ u, KeepsLatches i u (body u)) :
    KeepsLatches i s (performUnit offs body s) := by
  subst ho
  cases hc : s.srcChanged
  · rw [performUnit_available body hc ha]; exact h s
  · rw [performUnit_unpredictable body hc ha]; exact h { s with src := s.freeSource (unitOffsets i s) }

/-- EODLATCH is set by the unit check only, and the half-byte cursor moves in DK3 units only (R121, R211). -/
theorem runUnit_latches {i : Instr} {s : State} (hi : i.isUnit = true)
    (ha : ∀ o ∈ unitOffsets i s, s.cursor.toNat + o < s.limit) : KeepsLatches i s (runUnit i s) := by
  cases i with
  | okiBody =>
    unfold runUnit okiBody
    exact performUnit_latches rfl ha fun u => .of_latches (by simp)
  | imaGenericBody =>
    unfold runUnit imaGenericBody
    exact performUnit_latches rfl ha fun u => .of_latches (imaStreamBody_latches u _)
  | dviBody =>
    unfold runUnit dviBody
    exact performUnit_latches rfl ha fun u => .of_latches (imaStreamBody_latches u _)
  | appleImaHeader =>
    unfold runUnit appleImaHeader
    exact performUnit_latches rfl ha fun u => .of_latches (by unfold appleLoad; split <;> rfl)
  | appleImaBody =>
    unfold runUnit appleImaBody
    exact performUnit_latches rfl ha fun u => .of_latches (appleBody_latches u)
  | msimaMonoHeader =>
    unfold runUnit msimaMonoHeader
    exact performUnit_latches (by rfl) ha fun u => .of_latches (by simp)
  | msimaMonoBody =>
    unfold runUnit msimaMonoBody
    exact performUnit_latches rfl ha fun u => .of_latches (by simp)
  | msimaStereoHeader =>
    unfold runUnit msimaStereoHeader
    exact performUnit_latches (by rfl) ha fun u => .of_latches (by simp)
  | msimaStereoBody =>
    unfold runUnit msimaStereoBody
    exact performUnit_latches (by rfl) ha fun u => .of_latches (u.group_latches _ _ _ 8)
  | dk3Header =>
    unfold runUnit dk3Header
    exact performUnit_latches rfl ha fun u => ⟨rfl, fun h => absurd rfl h⟩
  | dk3Body =>
    unfold runUnit dk3Body
    refine performUnit_latches (dk3BodyOffsets_eq s) ha fun u => ⟨?_, fun _ h => absurd rfl h⟩
    split <;> simp [dk3SdsBody, dk3SdBody]
  | msAdpcmHeader =>
    unfold runUnit msAdpcmHeader
    exact performUnit_latches rfl ha fun u => .of_latches (by split <;> rfl)
  | msAdpcmBody =>
    unfold runUnit msAdpcmBody
    refine performUnit_latches rfl ha fun u => .of_latches ?_
    split
    · rfl
    · rename_i t ht
      simpa using msBodyCodes_latches u ht
  | configure | readBuffer | endOfData | isStereo | getRate | rewind | release => cases hi
  | imaStep | okiStep | msAdpcmStep => cases hi

/-- Settles O33: a unit is cut off and sets EODLATCH only, or is performed and keeps what its rule keeps. -/
theorem unitsLeaveTheRestAlone : Obligations.UnitsLeaveTheRestAlone := by
  intro i s t hi h
  refine ⟨exec_unit_frame hi h, ?_⟩
  cases (exec_unit hi s).symm.trans h
  by_cases ha : ∀ o ∈ unitOffsets i s, s.cursor.toNat + o < s.limit
  · obtain ⟨heod, hnibble⟩ := runUnit_latches hi ha
    refine ⟨(runUnit_goesOn hi ha).imp_left fun ⟨_, hfault, _⟩ => hfault, fun hh hb => ?_, fun _ => heod⟩
    exact Prod.mk.inj (Prod.mk.inj (hnibble hh hb)).2
  · have hcut : runUnit i s = s.latchEnd := (runUnit_outcome hi s).resolve_right fun h => ha h.1
    rw [hcut]
    exact ⟨.inl rfl, fun _ _ => ⟨rfl, rfl⟩, fun h => absurd h ha⟩

end Sys2Proof.Machine
end

section
/-! PROOF. ReadLoop (40_commands.md R121-R126): its turns, how many of them it takes, and a read cut in two. -/

namespace Sys2Proof.Machine

/-! ### The turns -/

/-- ReadLoop has no unit to perform: a fault, or the end of the stream (R121, R256). -/
def State.stopped (s : State) : Bool := s.isFaulted || s.atEnd

theorem stopped_iff (s : State) :
    s.stopped = true ↔ s.faultReg ≠ 0#4 ∨ s.dec.eodLatch = true ∨ s.limit ≤ s.cursor.toNat := by
  simp [State.stopped, State.atEnd, State.isFaulted]

theorem stopped_eq_false_iff (s : State) :
    s.stopped = false ↔ s.faultReg = 0#4 ∧ s.dec.eodLatch = false ∧ s.cursor.toNat < s.limit := by
  simp [State.stopped, s.isFaulted_eq_false_iff, s.atEnd_eq_false_iff]

section Turns
variable {fuel n : Nat} {out : List Sample} {s : State}

theorem readLoop_done (h : n ≤ out.length) : readLoop fuel n out s = (out, s) := by
  cases fuel with
  | zero => rfl
  | succ f => exact if_pos h

theorem readLoop_pop {x : Sample} {rest : List Sample} (h : out.length < n) (hp : s.dec.pend = x :: rest) :
    readLoop (fuel + 1) n out s = readLoop fuel n (out ++ [x]) (s.setPend rest) := by
  rw [readLoop, if_neg (Nat.not_le.2 h), hp]

theorem readLoop_stop (hp : s.dec.pend = []) (hs : s.stopped = true) : readLoop fuel n out s = (out, s) := by
  cases fuel with
  | zero => rfl
  | succ f =>
    rw [readLoop, hp]
    split
    · rfl
    · exact if_pos hs

theorem readLoop_unit (h : out.length < n) (hp : s.dec.pend = []) (hs : s.stopped = false) :
    readLoop (fuel + 1) n out s = readLoop fuel n out (dispatchUnit s) := by
  rw [readLoop, if_neg (Nat.not_le.2 h), hp]
  exact if_neg (Bool.eq_false_iff.1 hs)

end Turns

/-- The engine performs exec of the unit its word decodes to (R121, R122). -/
theorem dispatchUnit_of_exec {i : Instr} {s t : State} (hd : decodeDispatch s.dispatchWord = .ok i)
    (he : exec i s = .next t) : dispatchUnit s = t := by
  obtain ⟨j, hj, hu, -⟩ := decodeDispatch_dispatchWord s
  cases hd.symm.trans hj
  cases (exec_unit hu s).symm.trans he
  unfold dispatchUnit
  rw [hd]

/-- Settles O14: the four turns. -/
theorem readLoopTurns : Obligations.ReadLoopTurns := by
  intro fuel n out s
  refine ⟨readLoop_done, fun x rest => readLoop_pop, fun _ hp hs => readLoop_stop hp ((stopped_iff s).2 hs),
    fun i t h hp hf hl hc hd he => ?_⟩
  rw [readLoop_unit h hp ((stopped_eq_false_iff s).2 ⟨hf, hl, hc⟩), dispatchUnit_of_exec hd he]

/-! ### How many turns it takes -/

/-- The turns ReadLoop can still take: one a sample, one a byte below LIMIT, and one for a unit that is cut off or faults
(R125). -/
def turnsLeft (n : Nat) (out : List Sample) (s : State) : Nat :=
  (n - out.length) + (s.limit - s.cursor.toNat) + (if s.stopped then 0 else 1)

/-- A unit that goes on brings CURSOR closer to LIMIT; any other stops the loop (R123, R125, R232). -/
theorem dispatchUnit_progress (s : State) :
    (dispatchUnit s).stopped = true ∧ (dispatchUnit s).cursor = s.cursor ∨
      s.cursor.toNat < (dispatchUnit s).cursor.toNat := by
  obtain ⟨i, hi, -, e⟩ := dispatchUnit_formed s
  rw [e]
  rcases runUnit_outcome hi s with e | ⟨ha, hgo | ⟨-, e⟩⟩
  · rw [e]; exact .inl ⟨(stopped_iff _).2 (.inr (.inl rfl)), rfl⟩
  · obtain ⟨hcursor, -⟩ := hgo.row hi ha
    have := unitAdvance_pos hi s
    exact .inr (by omega)
  · rw [e]; exact .inl ⟨(stopped_iff _).2 (.inl (by simp)), rfl⟩

theorem turnsLeft_unit {s : State} (hs : s.stopped = false) (n : Nat) (out : List Sample) :
    turnsLeft n out (dispatchUnit s) < turnsLeft n out s := by
  have hlimit := (dispatchUnit_frame s).limit_eq
  have ⟨_, _, hc⟩ := (stopped_eq_false_iff s).1 hs
  unfold turnsLeft
  rw [hlimit, hs]
  rcases dispatchUnit_progress s with ⟨hstop, hcursor⟩ | hcursor
  · rw [hstop, hcursor]; simp
  · split <;> simp <;> omega

theorem turnsLeft_pop {n : Nat} {out : List Sample} (h : out.length < n) (s : State) (x : Sample) (rest : List Sample) :
    turnsLeft n (out ++ [x]) (s.setPend rest) < turnsLeft n out s := by
  have hlen : (out ++ [x]).length = out.length + 1 := List.length_append
  have hlimit : (s.setPend rest).limit = s.limit := rfl
  have hstop : (s.setPend rest).stopped = s.stopped := rfl
  unfold turnsLeft
  rw [hlen, hlimit, hstop, State.setPend_cursor]
  omega

/-- Turns beyond the ones ReadLoop can take change nothing (R125). -/
theorem readLoop_add {fuel n : Nat} {out : List Sample} {s : State} (hf : turnsLeft n out s ≤ fuel) (k : Nat) :
    readLoop (fuel + k) n out s = readLoop fuel n out s := by
  induction fuel generalizing out s with
  | zero =>
    have h : n ≤ out.length := by unfold turnsLeft at hf; omega
    rw [readLoop_done h, readLoop_done h]
  | succ fuel ih =>
    rcases Nat.lt_or_ge out.length n with h | h
    case inr => rw [readLoop_done h, readLoop_done h]
    rw [Nat.add_right_comm]
    cases hp : s.dec.pend with
    | cons x rest =>
      have := turnsLeft_pop h s x rest
      rw [readLoop_pop h hp, readLoop_pop h hp, ih (by omega)]
    | nil =>
      cases hs : s.stopped
      · have := turnsLeft_unit hs n out
        rw [readLoop_unit h hp hs, readLoop_unit h hp hs, ih (by omega)]
      · rw [readLoop_stop hp hs, readLoop_stop hp hs]

/-- The model's bound is enough (R125; log entry 14). -/
theorem turnsLeft_le_readFuel (n : Nat) (s : State) : turnsLeft n [] s ≤ readFuel n s := by
  unfold turnsLeft readFuel
  split <;> simp

/-- Settles O15: the bound covers the turns that are left. -/
theorem readLoopTerminates : Obligations.ReadLoopTerminates :=
  fun n k s => readLoop_add (turnsLeft_le_readFuel n s) k

/-! ### ReadLoop run to its end -/

/-- ReadLoop with all the turns it can take. -/
def readAll (n : Nat) (out : List Sample) (s : State) : List Sample × State := readLoop (turnsLeft n out s) n out s

/-- With enough turns ReadLoop runs to its end. -/
theorem readLoop_eq_readAll {fuel n : Nat} {out : List Sample} {s : State} (hf : turnsLeft n out s ≤ fuel) :
    readLoop fuel n out s = readAll n out s := by
  rw [← Nat.add_sub_cancel' hf, readLoop_add le_rfl]; rfl

theorem readSamples_eq_readAll (n : Nat) (s : State) : readSamples n s = readAll n [] s :=
  readLoop_eq_readAll (turnsLeft_le_readFuel n s)

section ToTheEnd
variable {n : Nat} {out : List Sample} {s : State}

theorem readAll_done (h : n ≤ out.length) : readAll n out s = (out, s) := readLoop_done h

theorem readAll_stop (hp : s.dec.pend = []) (hs : s.stopped = true) : readAll n out s = (out, s) := readLoop_stop hp hs

theorem readAll_pop {x : Sample} {rest : List Sample} (h : out.length < n) (hp : s.dec.pend = x :: rest) :
    readAll n out s = readAll n (out ++ [x]) (s.setPend rest) := by
  have := turnsLeft_pop h s x rest
  rw [← readLoop_eq_readAll (Nat.le_succ _), readLoop_pop h hp, readLoop_eq_readAll (by omega)]

theorem readAll_unit (h : out.length < n) (hp : s.dec.pend = []) (hs : s.stopped = false) :
    readAll n out s = readAll n out (dispatchUnit s) := by
  have := turnsLeft_unit hs n out
  rw [← readLoop_eq_readAll (Nat.le_succ _), readLoop_unit h hp hs, readLoop_eq_readAll (by omega)]

/-- The induction over the turns of ReadLoop to its end: `done` and `stop` are its ends, `pop` and `unit` its turns. -/
theorem readAll_turns {n : Nat} {motive : List Sample → State → Prop}
    (done : ∀ out s, n ≤ out.length → motive out s)
    (stop : ∀ out s, out.length < n → s.dec.pend = [] → s.stopped = true → motive out s)
    (pop : ∀ out s x rest, out.length < n → s.dec.pend = x :: rest → motive (out ++ [x]) (s.setPend rest) →
      motive out s)
    (unit : ∀ out s, out.length < n → s.dec.pend = [] → s.stopped = false → motive out (dispatchUnit s) →
      motive out s)
    (out : List Sample) (s : State) : motive out s := by
  rcases Nat.lt_or_ge out.length n with h | h
  case inr => exact done out s h
  cases hp : s.dec.pend with
  | cons x rest =>
    have := turnsLeft_pop h s x rest
    exact pop out s x rest h hp (readAll_turns done stop pop unit _ _)
  | nil =>
    cases hs : s.stopped
    · have := turnsLeft_unit hs n out
      exact unit out s h hp hs (readAll_turns done stop pop unit _ _)
    · exact stop out s h hp hs
termination_by turnsLeft n out s

/-- ReadLoop ends with all the samples asked for, or with nothing pending and no unit to perform (R121, R124). -/
theorem readAll_ends (n : Nat) (out : List Sample) (s : State) :
    n ≤ (readAll n out s).1.length ∨ (readAll n out s).2.dec.pend = [] ∧ (readAll n out s).2.stopped = true := by
  induction out, s using readAll_turns (n := n) with
  | done out s h => rw [readAll_done h]; exact .inl h
  | stop out s _ hp hs => rw [readAll_stop hp hs]; exact .inr ⟨hp, hs⟩
  | pop out s x rest h hp ih => rw [readAll_pop h hp]; exact ih
  | unit out s h hp hs ih => rw [readAll_unit h hp hs]; exact ih

/-- A read of `a + b` goes on where a read of `a` ends. -/
theorem readAll_resume (a b : Nat) (out : List Sample) (s : State) :
    readAll (a + b) out s = readAll (a + b) (readAll a out s).1 (readAll a out s).2 := by
  induction out, s using readAll_turns (n := a) with
  | done out s h => rw [readAll_done (n := a) h]
  | stop out s _ hp hs => rw [readAll_stop (n := a) hp hs]
  | pop out s x rest h hp ih => rw [readAll_pop (n := a) h hp, ← ih, readAll_pop (by omega) hp]
  | unit out s h hp hs ih => rw [readAll_unit (n := a) h hp hs, ← ih, readAll_unit (by omega) hp hs]

/-- Samples collected before do not change what is collected after them. -/
theorem readAll_append (pre : List Sample) (n : Nat) (s : State) :
    readAll (pre.length + n) pre s = (pre ++ (readAll n [] s).1, (readAll n [] s).2) := by
  have hturns : turnsLeft (pre.length + n) pre s = turnsLeft n [] s := by simp [turnsLeft]
  unfold readAll
  rw [hturns]
  simpa using readLoop_append (turnsLeft n [] s) n pre [] s

/-- A read of `a` and then of `b` collects what a read of `a + b` does (R126). -/
theorem readAll_add (a b : Nat) (s : State) :
    readAll (a + b) [] s =
      ((readAll a [] s).1 ++ (readAll b [] (readAll a [] s).2).1, (readAll b [] (readAll a [] s).2).2) := by
  rw [readAll_resume]
  have hle : (readAll a [] s).1.length ≤ a := readLoop_length_le _ a [] s (Nat.zero_le a)
  rcases readAll_ends a [] s with h | ⟨hp, hs⟩
  · rw [← readAll_append, hle.antisymm h]
  · rw [readAll_stop hp hs, readAll_stop hp hs, List.append_nil]

end ToTheEnd

end Sys2Proof.Machine
end

section
/-! PROOF. READ_BUFFER (40_commands.md R114): where it is turned away, and what it delivers and reports. -/

namespace Sys2Proof.Machine

/-! ### A_MAX -/

/-- Bit 31 of A_MAX is its sign (R103). -/
theorem maxNegative_iff (m : Word32) : maxNegative m = true ↔ 2 ^ 31 ≤ m.toNat := by
  have := m.isLt
  simp only [maxNegative, BitVec.getLsbD, Nat.testBit_eq_decide_div_mod_eq, decide_eq_true_eq]
  omega

/-- A legal A_MAX is maxSamples (R103). -/
theorem maxSamples_eq {m : Word32} (h : m.toNat < 2 ^ 31) : maxSamples m = m.toNat := Nat.mod_eq_of_lt h

/-! ### The ways of READ_BUFFER -/

section Ways
variable {s : State} (hf : s.faultReg = 0#4) (hl : s.life = .configured)
include hf hl

/-- A_MAX[31] = 1 is refused first (R114, R259). -/
theorem exec_readBuffer_negative (hmax : 2 ^ 31 ≤ s.args.max.toNat) :
    exec .readBuffer s = .next (s.refuse .cmdBadArg) := by
  rw [exec_readBuffer hf hl, readBufferBody, if_pos ((maxNegative_iff _).2 hmax)]

/-- An undefined position raises POSITION_UNDEFINED (R257). -/
theorem exec_readBuffer_undefined (hmax : s.args.max.toNat < 2 ^ 31) (hv : s.cursorValid = false) :
    exec .readBuffer s = .next (finishRead s.args.max.toNat [] (s.raise .positionUndefined)) := by
  rw [exec_readBuffer hf hl, readBufferBody, if_neg (mt (maxNegative_iff _).1 (Nat.not_le.2 hmax)), maxSamples_eq hmax,
    if_pos (by rw [hv]; rfl)]

/-- A maxSamples that is no multiple of the granule is refused under STRICT_GRANULE (R127). -/
theorem exec_readBuffer_granule (hmax : s.args.max.toNat < 2 ^ 31) (hv : s.cursorValid = true)
    (hstrict : s.cfg.strictGranule = true) (hg : s.args.max.toNat % granule s ≠ 0) :
    exec .readBuffer s = .next (s.refuse .cmdBadArg) := by
  rw [exec_readBuffer hf hl, readBufferBody, if_neg (mt (maxNegative_iff _).1 (Nat.not_le.2 hmax)), maxSamples_eq hmax,
    if_neg (by simp [hv]), if_pos (by simp [hstrict, hg])]

/-- Otherwise it delivers what ReadLoop collects (R114). -/
theorem exec_readBuffer_reads (hmax : s.args.max.toNat < 2 ^ 31) (hv : s.cursorValid = true)
    (hg : s.cfg.strictGranule = true → s.args.max.toNat % granule s = 0) :
    exec .readBuffer s =
      .next (finishRead s.args.max.toNat (readAll s.args.max.toNat [] s).1 (readAll s.args.max.toNat [] s).2) := by
  rw [exec_readBuffer hf hl, readBufferBody, if_neg (mt (maxNegative_iff _).1 (Nat.not_le.2 hmax)), maxSamples_eq hmax,
    if_neg (by simp [hv]), if_neg (by simpa using hg), readSamples_eq_readAll]

end Ways

/-- G, written out (R127). -/
theorem granule_eq (s : State) :
    granule s = if s.conf.variant = .dk3 ∧ s.cfg.dk3Schedule = .sds then 4 else s.conf.channels.count := by
  unfold granule
  cases s.conf.variant <;> cases s.cfg.dk3Schedule <;> rfl

/-- Delivery of nothing. -/
@[simp] theorem State.deliver_nil (s : State) : s.deliver [] = s := by simp [State.deliver]

/-- A fault on the way is reported as FAULT, and is not a short read (R256, R259). -/
theorem finishRead_faulted {s : State} (h : s.faultReg ≠ 0#4) (max : Nat) (out : List Sample) :
    finishRead max out s = (s.deliver out).finish (BitVec.ofNat 32 out.length) false .fault := by
  unfold finishRead
  rw [if_pos (s.isFaulted_eq_true_iff.2 h)]

/-- Without a fault a count below maxSamples is a short read (R114, R252). -/
theorem finishRead_unfaulted {s : State} (h : s.faultReg = 0#4) (max : Nat) (out : List Sample) :
    finishRead max out s = (s.deliver out).finish (BitVec.ofNat 32 out.length) (decide (out.length < max))
      (if out.length < max then .truncated else .none) := by
  unfold finishRead
  rw [if_neg (by rw [s.isFaulted_eq_false_iff.2 h]; decide)]

/-- Settles O13: each clause is one way of READ_BUFFER. -/
theorem readBufferTurnedAway : Obligations.ReadBufferTurnedAway := by
  intro s hf hl n g f
  refine ⟨exec_readBuffer_negative hf hl, fun hmax hv => ?_, fun hmax hv hstrict hg => ?_⟩
  · have hraised : (s.raise .positionUndefined).faultReg ≠ 0#4 := by simp [FaultCode.code]
    rw [exec_readBuffer_undefined hf hl hmax hv, finishRead_faulted hraised, State.deliver_nil]
    rfl
  · exact exec_readBuffer_granule hf hl hmax hv hstrict (by rwa [granule_eq])

/-- Settles O16: at the end ReadLoop collects nothing and changes nothing. -/
theorem readAfterTheEndReturnsNothing : Obligations.ReadAfterTheEndReturnsNothing := by
  intro s hf hl hv hmax hstrict hp hend
  have hread : readAll s.args.max.toNat [] s = ([], s) := readAll_stop hp ((stopped_iff s).2 (.inr hend))
  rw [exec_readBuffer_reads hf hl hmax hv (by simp [hstrict]), hread, finishRead_unfaulted hf, State.deliver_nil]
  rfl

/-! ### What a read reports -/

/-- A raised fault is DELTA_OVERFLOW in an MS_ADPCM stream (R232, R257). -/
def FaultsByOverflow (s : State) : Prop := s.faultReg ≠ 0#4 → s.faultReg = 2#4 ∧ s.conf.variant = .msAdpcm

/-- The engine performs units of the active variant, and only the MS_ADPCM body raises a fault. -/
theorem FaultsByOverflow.dispatchUnit {s : State} (hs : FaultsByOverflow s) : FaultsByOverflow (dispatchUnit s) := by
  intro h
  rw [(dispatchUnit_frame s).conf_eq]
  obtain ⟨i, hi, hform, e⟩ := dispatchUnit_formed s
  rw [e] at h ⊢
  rcases runUnit_outcome hi s with e | ⟨-, ⟨-, hfault, -⟩ | ⟨rfl, e⟩⟩
  · rw [e] at h ⊢; exact hs h
  · rw [hfault] at h ⊢; exact hs h
  · rw [e]; exact ⟨rfl, eq_of_beq hform⟩

theorem readAll_frame (n : Nat) (out : List Sample) (s : State) : EngineFrame s (readAll n out s).2 := readLoop_frame ..

/-- The only fault ReadLoop raises is DELTA_OVERFLOW, in an MS_ADPCM stream (R232, R257). -/
theorem readAll_fault {s : State} (hf : s.faultReg = 0#4) (n : Nat) (out : List Sample)
    (h : (readAll n out s).2.faultReg ≠ 0#4) :
    (readAll n out s).2.faultReg = 2#4 ∧ s.conf.variant = .msAdpcm := by
  have hend : FaultsByOverflow (readAll n out s).2 :=
    readLoop_induct (fun _ _ _ _ hu => hu) (fun _ _ _ _ hu => hu.dispatchUnit) _ n out s fun h0 => absurd hf h0
  rw [← (readAll_frame n out s).conf_eq]
  exact hend h

theorem readAll_length_le {n : Nat} {out : List Sample} (h : out.length ≤ n) (s : State) :
    (readAll n out s).1.length ≤ n := readLoop_length_le _ n out s h

/-- A read leaves alone what READ_BUFFER does not write. -/
theorem EngineFrame.finishRead {s t : State} (h : EngineFrame s t) (max : Nat) (out : List Sample) :
    ReadFrame s (finishRead max out t) := by
  obtain ⟨hframe, hdraws⟩ := h
  obtain ⟨short, err, e⟩ := finishRead_cases max out t
  rw [e]
  refine ⟨?_, hdraws⟩
  obtain ⟨d, c, f, n, rfl⟩ : ∃ d c f n, t = { s with dec := d, cursor := c, faultReg := f, draws := n } :=
    ⟨_, _, _, _, hframe⟩
  rfl

/-- A read that collects fewer samples than it was asked for, without a fault, is at the end of data (R114, R124). -/
theorem readAll_endOfData {n : Nat} {s : State} (hf : (readAll n [] s).2.faultReg = 0#4)
    (h : (readAll n [] s).1.length < n) : (readAll n [] s).2.endOfData = true := by
  obtain ⟨hp, hs⟩ := (readAll_ends n [] s).resolve_left (Nat.not_le.2 h)
  exact (endOfData_iff _).2 ⟨hp, ((stopped_iff _).1 hs).resolve_left (not_not.2 hf)⟩

/-- Settles O12: what ReadLoop collects and leaves, its frame, and the report by whether it faulted. -/
theorem readBufferDeliversAndReports : Obligations.ReadBufferDeliversAndReports := by
  intro s hf hl hv hmax hg
  refine ⟨_, exec_readBuffer_reads hf hl hmax hv hg, (readAll_frame ..).finishRead .., ?_⟩
  intro n r
  have hr : readAll n [] s = r := (readSamples_eq_readAll n s).symm
  have hlen : r.1.length ≤ n := hr ▸ readAll_length_le (Nat.zero_le n) s
  have frame : EngineFrame s r.2 := hr ▸ readAll_frame n [] s
  have hport : r.2.samplePort = s.samplePort := by rw [frame.1]
  have hbuf : r.2.hostBuf = s.hostBuf := by rw [frame.1]
  have hend := readAll_endOfData (n := n) (s := s)
  have hfault := readAll_fault (s := s) hf n []
  have hcount : (BitVec.ofNat 32 r.1.length).toNat = r.1.length := by simp; omega
  rw [hr] at hend hfault ⊢
  clear_value r
  by_cases h0 : r.2.faultReg = 0#4
  · rw [finishRead_unfaulted h0]
    exact ⟨rfl, rfl, rfl, rfl, hlen, hcount, by simp [hport], by simp [hbuf], fun _ => ⟨rfl, hend h0⟩,
      fun h => absurd h0 h⟩
  · rw [finishRead_faulted h0]
    obtain ⟨h2, hms⟩ := hfault h0
    exact ⟨rfl, rfl, rfl, rfl, hlen, hcount, by simp [hport], by simp [hbuf], fun h => absurd h h0,
      fun _ => ⟨h2, hms, rfl⟩⟩

end Sys2Proof.Machine
end

section
/-! PROOF. The engine reads and writes its own part of the state only: not the registers the host sees, its requests, or the
samples delivered. From it chunking independence (40_commands.md R126). -/

namespace Sys2Proof.Machine

/-- The engine's part of `s`, in the surroundings of `h`. -/
def State.hostedBy (s h : State) : State :=
  { h with
    faultReg := s.faultReg, conf := s.conf, dec := s.dec, cursor := s.cursor, cfg := s.cfg, src := s.src, srcLen := s.srcLen
    srcChanged := s.srcChanged, draws := s.draws }

section Operations
variable (s h : State) (k : Chan) (c : Code)

@[simp] theorem State.hostedBy_conf : (s.hostedBy h).conf = s.conf := rfl
@[simp] theorem State.hostedBy_dec : (s.hostedBy h).dec = s.dec := rfl
@[simp] theorem State.hostedBy_cursor : (s.hostedBy h).cursor = s.cursor := rfl
@[simp] theorem State.hostedBy_cfg : (s.hostedBy h).cfg = s.cfg := rfl
@[simp] theorem State.hostedBy_src : (s.hostedBy h).src = s.src := rfl
@[simp] theorem State.hostedBy_isStereo : (s.hostedBy h).isStereo = s.isStereo :=
  State.isStereo_congr rfl
@[simp] theorem State.hostedBy_unitChannels : (s.hostedBy h).unitChannels = s.unitChannels := rfl
@[simp] theorem State.hostedBy_addr (o : Nat) : (s.hostedBy h).addr o = s.addr o := rfl
@[simp] theorem State.hostedBy_byteAt : (s.hostedBy h).byteAt = s.byteAt := rfl
@[simp] theorem State.hostedBy_ch : (s.hostedBy h).ch k = s.ch k := by cases k <;> rfl

@[simp] theorem State.setCh_hostedBy (x : Channel) : (s.hostedBy h).setCh k x = (s.setCh k x).hostedBy h := by
  cases k <;> rfl
@[simp] theorem State.setPend_hostedBy (p : List Sample) : (s.hostedBy h).setPend p = (s.setPend p).hostedBy h := rfl
@[simp] theorem State.setBlockRem_hostedBy (r : Word32) :
    (s.hostedBy h).setBlockRem r = (s.setBlockRem r).hostedBy h := rfl
@[simp] theorem State.setNibble_hostedBy (t : Bool) (b : Byte) :
    (s.hostedBy h).setNibble t b = (s.setNibble t b).hostedBy h := rfl
@[simp] theorem State.advance_hostedBy (n : Nat) : (s.hostedBy h).advance n = (s.advance n).hostedBy h := rfl
@[simp] theorem State.raise_hostedBy (f : FaultCode) : (s.hostedBy h).raise f = (s.raise f).hostedBy h := rfl

@[simp] theorem State.imaStep_hostedBy : (s.hostedBy h).imaStep k c = (s.imaStep k c).hostedBy h := by
  simp [State.imaStep]
@[simp] theorem State.imaEmit_hostedBy : (s.hostedBy h).imaEmit k c = (s.imaEmit k c).hostedBy h := by
  simp [State.imaEmit]
@[simp] theorem State.okiEmit_hostedBy : (s.hostedBy h).okiEmit k c = (s.okiEmit k c).hostedBy h := by
  simp [State.okiEmit, State.okiStep]
@[simp] theorem State.msimaEmit_hostedBy : (s.hostedBy h).msimaEmit k c = (s.msimaEmit k c).hostedBy h := by
  simp [State.msimaEmit]
@[simp] theorem State.msEmit_hostedBy : (s.hostedBy h).msEmit k c = (s.msEmit k c).map (·.hostedBy h) := by
  simp only [State.msEmit, hostedBy_cfg, hostedBy_ch]
  split <;> simp
@[simp] theorem okiSecondChan_hostedBy : okiSecondChan (s.hostedBy h) = okiSecondChan s := rfl
@[simp] theorem nextNibState_hostedBy : nextNibState (s.hostedBy h) = (nextNibState s).hostedBy h := by
  unfold nextNibState
  rw [State.hostedBy_dec]
  split <;> simp
@[simp] theorem nextNibCode_hostedBy : nextNibCode (s.hostedBy h) = nextNibCode s := rfl
@[simp] theorem State.dk3Step_hostedBy : (s.hostedBy h).dk3Step k = (s.dk3Step k).hostedBy h := by
  simp [State.dk3Step]
@[simp] theorem State.dk3Emit_hostedBy : (s.hostedBy h).dk3Emit = s.dk3Emit.hostedBy h := rfl

end Operations

section Rules
variable (s h : State)

@[simp] theorem imaStreamBody_hostedBy (o : NibbleOrder) : imaStreamBody o (s.hostedBy h) = (imaStreamBody o s).hostedBy h := by
  simp [imaStreamBody]

/-- Both channels loaded, samples pushed, and the bytes of a group passed. -/
theorem State.group_hostedBy (c0 c1 : Channel) (xs : List Sample) (n : Nat) :
    (((((s.hostedBy h).setCh .zero c0).setCh .one c1).emit xs).advance n).consume n =
      (((((s.setCh .zero c0).setCh .one c1).emit xs).advance n).consume n).hostedBy h := rfl

@[simp] theorem appleLoad_hostedBy : appleLoad (s.hostedBy h) = (appleLoad s).hostedBy h := by
  unfold appleLoad
  dsimp only
  rw [State.hostedBy_isStereo]
  split <;> rfl

@[simp] theorem appleSkip_hostedBy : appleSkip (s.hostedBy h) = (appleSkip s).hostedBy h := by
  unfold appleSkip
  rw [State.hostedBy_dec]
  split <;> simp

theorem msBodyCodes_hostedBy : msBodyCodes (s.hostedBy h) = (msBodyCodes s).map (·.hostedBy h) := by
  simp only [msBodyCodes, State.hostedBy_byteAt, State.hostedBy_cfg, State.hostedBy_isStereo, State.msEmit_hostedBy]
  cases s.msEmit .zero (firstCode s.cfg.nibbleOrder.msAdpcm (s.byteAt 0)) <;> simp

theorem performUnit_hostedBy {body : State → State} (hb : ∀ u, body (u.hostedBy h) = (body u).hostedBy h)
    (offs : List Nat) : performUnit offs body (s.hostedBy h) = (performUnit offs body s).hostedBy h := by
  have havail : (s.hostedBy h).available offs = s.available offs := rfl
  have hchanged : (s.hostedBy h).srcChanged = s.srcChanged := rfl
  have hfree := hb { s with src := s.freeSource offs }
  unfold performUnit
  rw [havail, hchanged]
  split
  · split
    · exact congrArg (s.hostedBy h).unpredictable hfree
    · exact hb s
  · rfl

end Rules

theorem runUnit_hostedBy (i : Instr) (s h : State) : runUnit i (s.hostedBy h) = (runUnit i s).hostedBy h := by
  cases i with
  | okiBody =>
    unfold runUnit okiBody
    exact performUnit_hostedBy s h (fun u => by simp) _
  | imaGenericBody =>
    unfold runUnit imaGenericBody
    exact performUnit_hostedBy s h (fun u => by simp) _
  | dviBody =>
    unfold runUnit dviBody
    exact performUnit_hostedBy s h (fun u => by simp) _
  | appleImaHeader =>
    unfold runUnit appleImaHeader
    exact performUnit_hostedBy s h (fun u => by simp) _
  | appleImaBody =>
    unfold runUnit appleImaBody
    refine performUnit_hostedBy s h (fun u => ?_) _
    rw [State.hostedBy_isStereo]
    split <;> simp [appleMonoBody, appleStereoBody]
  | msimaMonoHeader =>
    unfold runUnit msimaMonoHeader
    exact performUnit_hostedBy s h (fun u => by simp) _
  | msimaMonoBody =>
    unfold runUnit msimaMonoBody
    exact performUnit_hostedBy s h (fun u => by simp) _
  | msimaStereoHeader =>
    unfold runUnit msimaStereoHeader
    exact performUnit_hostedBy s h (fun u => by simp) _
  | msimaStereoBody =>
    unfold runUnit msimaStereoBody
    exact performUnit_hostedBy s h (fun u => u.group_hostedBy h _ _ _ 8) _
  | dk3Header =>
    unfold runUnit dk3Header
    exact performUnit_hostedBy s h (fun u => by simp) _
  | dk3Body =>
    unfold runUnit dk3Body
    refine performUnit_hostedBy s h (fun u => ?_) _
    rw [State.hostedBy_cfg]
    split <;> simp [dk3SdsBody, dk3SdBody]
  | msAdpcmHeader =>
    unfold runUnit msAdpcmHeader
    refine performUnit_hostedBy s h (fun u => ?_) _
    rw [State.hostedBy_isStereo]
    split <;> simp [msStereoHeader, msMonoHeader]
  | msAdpcmBody =>
    unfold runUnit msAdpcmBody
    refine performUnit_hostedBy s h (fun u => ?_) _
    rw [msBodyCodes_hostedBy]
    cases msBodyCodes u <;> simp
  | configure | readBuffer | endOfData | isStereo | getRate | rewind | release => rfl
  | imaStep | okiStep | msAdpcmStep => rfl

theorem dispatchUnit_hostedBy (s h : State) : dispatchUnit (s.hostedBy h) = (dispatchUnit s).hostedBy h := by
  unfold dispatchUnit
  rw [show (s.hostedBy h).dispatchWord = s.dispatchWord from rfl]
  split
  · exact runUnit_hostedBy _ s h
  · rfl

/-- ReadLoop, as each of its turns. -/
theorem readLoop_hostedBy (fuel n : Nat) (out : List Sample) (s h : State) :
    readLoop fuel n out (s.hostedBy h) = ((readLoop fuel n out s).1, (readLoop fuel n out s).2.hostedBy h) := by
  induction fuel generalizing out s with
  | zero => rfl
  | succ fuel ih =>
    have hstopped : (s.hostedBy h).stopped = s.stopped := rfl
    rcases Nat.lt_or_ge out.length n with hlt | hge
    case inr => rw [readLoop_done hge, readLoop_done hge]
    cases hp : s.dec.pend with
    | cons x rest => rw [readLoop_pop hlt hp, readLoop_pop (s := s.hostedBy h) hlt hp, State.setPend_hostedBy, ih]
    | nil =>
      cases hs : s.stopped
      · rw [readLoop_unit hlt hp hs, readLoop_unit (s := s.hostedBy h) hlt hp (hstopped.trans hs), dispatchUnit_hostedBy, ih]
      · rw [readLoop_stop hp hs, readLoop_stop (s := s.hostedBy h) hp (hstopped.trans hs)]

theorem readAll_hostedBy (n : Nat) (out : List Sample) (s h : State) :
    readAll n out (s.hostedBy h) = ((readAll n out s).1, (readAll n out s).2.hostedBy h) := readLoop_hostedBy ..

/-! ### Chunking independence -/

/-- The state with `n` in A_MAX. -/
def State.asking (s : State) (n : Nat) : State := { s with args := { s.args with max := BitVec.ofNat 32 n } }

/-- READ_BUFFER of `n` samples at a state whose engine part is that of `s`: it leaves the engine where ReadLoop leaves `s`, and
delivers what ReadLoop collects from `s`. -/
theorem readBuffer_asking {s h t : State} {n : Nat} (he : s.hostedBy h = h) (hf : s.faultReg = 0#4)
    (hl : h.life = .configured) (hv : h.cursorValid = true) (hstrict : s.cfg.strictGranule = false) (hn : n < 2 ^ 31)
    (ht : exec .readBuffer (h.asking n) = .next t) :
    (readAll n [] s).2.hostedBy t = t ∧ t.samplePort = h.samplePort ++ (readAll n [] s).1 ∧
      t.life = .configured ∧ t.cursorValid = true := by
  have hmax : (s.hostedBy (h.asking n)).args.max.toNat = n := Nat.mod_eq_of_lt (by omega)
  have hengine : h.asking n = s.hostedBy (h.asking n) := (congrArg (·.asking n) he).symm
  rw [hengine, exec_readBuffer_reads (s := s.hostedBy (h.asking n)) hf hl (by omega) hv (by simp [hstrict]), hmax,
    readAll_hostedBy] at ht
  cases ht
  obtain ⟨short, err, e⟩ := finishRead_cases n (readAll n [] s).1 ((readAll n [] s).2.hostedBy (h.asking n))
  rw [e]
  exact ⟨rfl, rfl, hl, hv⟩

/-- Settles O17: the second read goes on from where the first left the engine. -/
theorem chunkingDoesNotMatter : Obligations.ChunkingDoesNotMatter := by
  intro s t₁ t₂ t₃ a b hf hl hv hstrict hab h₁ hf₁ h₂ h₃
  obtain ⟨e₁, port₁, hl₁, hv₁⟩ := readBuffer_asking (s := s) rfl hf hl hv hstrict (by omega) h₁
  have hf' : (readAll a [] s).2.faultReg = 0#4 := (congrArg State.faultReg e₁).trans hf₁
  have hstrict' : (readAll a [] s).2.cfg.strictGranule = false := by rw [(readAll_frame a [] s).cfg_eq, hstrict]
  obtain ⟨e₂, port₂, -⟩ := readBuffer_asking e₁ hf' hl₁ hv₁ hstrict' (by omega) h₂
  obtain ⟨e₃, port₃, -⟩ := readBuffer_asking (s := s) rfl hf hl hv hstrict hab h₃
  rw [readAll_add] at e₃ port₃
  refine ⟨by rw [port₃, port₂, port₁, List.append_assoc], ?_⟩
  rw [← e₂, ← e₃]
  exact ⟨rfl, rfl, rfl, rfl⟩

end Sys2Proof.Machine
end

section
/-! PROOF. The OKI decoder (42_oki.md): OKI_STEP on a channel, the widened sample, and the two codes of OKI_BODY's byte. -/

namespace Sys2Proof.Machine

/-! ### OKI_STEP and its sample -/

/-- PRED after a code, as a number: the difference is read at the INDEX before the update (R160). -/
theorem okiStepChannel_pred_toInt (c : Config) (code : Code) (ch : Channel) :
    (okiStepChannel c code ch).pred.toInt =
      min (max (ch.pred.toInt + applySign code (okiDiffEntry c ch.index.toNat (codeMag code))) (-2048)) 2047 :=
  int16_clamp12_toInt _

/-- INDEX after a code, as a number: OKI_INDEX_MAX fits the byte that holds it (R160). -/
theorem okiStepChannel_index_toNat (c : Config) (code : Code) (ch : Channel) :
    ((okiStepChannel c code ch).index.toNat : Int) =
      min (max (ch.index.toNat + stepAdjustEntry c code) 0) c.okiIndexMax.toNat :=
  nextIndex_toNat c (Nat.le_of_lt_succ c.okiIndexMax.isLt) code ch.index

/-- OKI_STEP updates its channel and completes (R160). -/
theorem exec_okiStep (k : Chan) (code : Code) (s : State) :
    exec (.okiStep k code) s = .next (s.setCh k (okiStepChannel s.cfg code (s.ch k))) := rfl

/-- Settles O27: the channel after the step, PRED and INDEX by their values. -/
theorem okiStepComputes : Obligations.OkiStepComputes := fun s k code =>
  ⟨okiStepChannel s.cfg code (s.ch k), exec_okiStep k code s, rfl, okiStepChannel_pred_toInt s.cfg code (s.ch k),
    okiStepChannel_index_toNat s.cfg code (s.ch k)⟩

/-- Sixteen times a 12-bit predictor fits 16 bits (R163). -/
theorem okiWiden_shl4_toInt {p : Word16} (hlo : -2048 ≤ p.toInt) (hhi : p.toInt ≤ 2047) :
    (okiWiden .shl4 p).toInt = p.toInt * 16 :=
  BitVec.toInt_ofInt_eq_self (by decide) (by omega) (by omega)

/-- Settles O28: SHL4 by its range; SEXT is the predictor itself. -/
theorem okiSamplesAreWidened : Obligations.OkiSamplesAreWidened := fun _ hlo hhi =>
  ⟨okiWiden_shl4_toInt hlo hhi, rfl⟩

/-! ### OKI_BODY -/

section Pairs
variable (s : State) (a b : Code)

/-- One code of the OKI body: the channel is stepped and its widened predictor is pushed (R160, R161). -/
theorem State.okiEmit_eq (k : Chan) : s.okiEmit k a =
    (s.setCh k (okiStepChannel s.cfg a (s.ch k))).setPend
      (s.dec.pend ++ [okiWiden s.cfg.okiWiden (okiStepChannel s.cfg a (s.ch k)).pred]) := by
  simp [State.okiEmit, State.okiStep]

/-- Two codes in one chain: the second continues from the predictor and index the first left in CH[0] (R161, R162). -/
theorem State.okiEmit_chain :
    let c0 := okiStepChannel s.cfg a s.dec.ch0
    let chain := okiStepChannel s.cfg b c0
    (s.okiEmit .zero a).okiEmit .zero b = { s with
      dec := { s.dec with
        ch0 := chain
        pend := s.dec.pend ++ [okiWiden s.cfg.okiWiden c0.pred, okiWiden s.cfg.okiWiden chain.pred] } } := by
  simp only [State.okiEmit_eq, State.setPend_dec, List.append_assoc]
  rfl

/-- One code on each channel: neither sees the other's predictor (R162). -/
theorem State.okiEmit_pair :
    let c0 := okiStepChannel s.cfg a s.dec.ch0
    let c1 := okiStepChannel s.cfg b s.dec.ch1
    (s.okiEmit .zero a).okiEmit .one b = { s with
      dec := { s.dec with
        ch0 := c0
        ch1 := c1
        pend := s.dec.pend ++ [okiWiden s.cfg.okiWiden c0.pred, okiWiden s.cfg.okiWiden c1.pred] } } := by
  simp only [State.okiEmit_eq, State.setPend_dec, List.append_assoc]
  rfl

end Pairs

/-- OKI_BODY with its byte below LIMIT: past the byte, then its two codes in the nibble order (R121, R161). -/
theorem exec_okiBody {s : State} (hc : s.srcChanged = false) (h : s.cursor.toNat < s.limit) :
    exec .okiBody s = .next
      (((s.advance 1).okiEmit .zero (firstCode s.cfg.nibbleOrder.oki (s.byteAt 0))).okiEmit
        (okiSecondChan s) (secondCode s.cfg.nibbleOrder.oki (s.byteAt 0))) :=
  congrArg _ (performUnit_available _ hc (by simpa using h))

/-- Settles O34: by the channel of the second code. -/
theorem okiBodyDecodesOneByte : Obligations.OkiBodyDecodesOneByte := by
  intro s hc h b o w c0 chain c1 cur
  rw [exec_okiBody hc h]
  refine ⟨fun ⟨hstereo, hper⟩ => ?perChannel, fun hshared => ?shared⟩
  case perChannel => rw [okiSecondChan_perChannel hstereo hper, State.okiEmit_pair]; rfl
  case shared => rw [okiSecondChan_shared hshared, State.okiEmit_chain]; rfl

end Sys2Proof.Machine
end

section
/-! PROOF. The IMA decoder (43_ima.md): IMA_STEP on a channel, the ranges every sequence of codes keeps, and the two codes of a
DVI or IMA_GENERIC body's byte. -/

namespace Sys2Proof.Machine

/-! ### IMA_STEP -/

/-- SHIFTADD reads the three magnitude bits of the code, each adding its fraction of the step (R170, R171). -/
theorem imaDiff_shiftAdd (step : Nat) (code : Code) :
    imaDiff .shiftAdd step (codeMag code) =
      step / 8 + (if code.getLsbD 2 = true then step else 0) + (if code.getLsbD 1 = true then step / 2 else 0) +
        (if code.getLsbD 0 = true then step / 4 else 0) := by
  have h2 : codeMag code / 4 % 2 = 1 ↔ code.getLsbD 2 = true := by rw [code_getLsbD, codeMag]; omega
  have h1 : codeMag code / 2 % 2 = 1 ↔ code.getLsbD 1 = true := by rw [code_getLsbD, codeMag]; omega
  have h0 : codeMag code % 2 = 1 ↔ code.getLsbD 0 = true := by rw [code_getLsbD, codeMag]; omega
  simp only [imaDiff, h2, h1, h0]

/-- PRED after a code, as a number: the difference is read at the INDEX before the update (R170). -/
theorem imaStepChannel_pred_toInt (c : Config) (code : Code) (ch : Channel) :
    (imaStepChannel c code ch).pred.toInt =
      min (max (ch.pred.toInt +
        applySign code (imaDiff c.imaDiff (imaStepEntry c ch.index.toNat) (codeMag code))) (-32768)) 32767 :=
  int16_clamp16_toInt _

/-- INDEX after a code, as a number (R170). -/
theorem imaStepChannel_index_toNat (c : Config) (code : Code) (ch : Channel) :
    ((imaStepChannel c code ch).index.toNat : Int) =
      min (max (ch.index.toNat + stepAdjustEntry c code) 0) 88 :=
  nextIndex_toNat c (by decide) code ch.index

/-- IMA_STEP updates its channel and completes (R170). -/
theorem exec_imaStep (k : Chan) (code : Code) (s : State) :
    exec (.imaStep k code) s = .next (s.setCh k (imaStepChannel s.cfg code (s.ch k))) := rfl

/-- Settles O25: the channel after the step, PRED and INDEX by their values; the difference by each IMA_DIFF. -/
theorem imaStepComputes : Obligations.ImaStepComputes := by
  intro s k code ch step m d signed
  have hd : d = imaDiff s.cfg.imaDiff step (codeMag code) := by
    cases hf : s.cfg.imaDiff with
    | doc => simp only [d, hf]; rfl
    | mul8 => simp only [d, hf]; rfl
    | shiftAdd => simp only [d, hf, imaDiff_shiftAdd]
  have hsigned : signed = applySign code (imaDiff s.cfg.imaDiff step (codeMag code)) :=
    congrArg (fun x : Int => if codeSign code then -x else x) hd
  exact ⟨imaStepChannel s.cfg code ch, exec_imaStep k code s, rfl,
    hsigned ▸ imaStepChannel_pred_toInt s.cfg code ch, imaStepChannel_index_toNat s.cfg code ch⟩

/-! ### Sequences of codes -/

/-- A run of codes, of any length, keeps INDEX in range (R172). -/
theorem foldl_imaStepChannel_index (c : Config) (codes : List Code) {ch : Channel} (h : IndexInRange ch) :
    IndexInRange (codes.foldl (fun x code => imaStepChannel c code x) ch) := by
  induction codes generalizing ch with
  | nil => exact h
  | cons code rest ih => exact ih (imaStepChannel_index c code ch)

/-- Settles O26: INDEX by induction on the codes, PRED by the width of its word. -/
theorem imaCodesKeepTheRanges : Obligations.ImaCodesKeepTheRanges := fun c codes _ h =>
  ⟨foldl_imaStepChannel_index c codes h, BitVec.le_toInt _, Int.le_of_lt_add_one BitVec.toInt_lt⟩

/-! ### DVI_BODY and IMA_GENERIC_BODY -/

section Pairs
variable (s : State) (a b : Code)

/-- One code of an IMA body: the channel is stepped and its predictor is pushed (R170, R173). -/
theorem State.imaEmit_eq (k : Chan) : s.imaEmit k a =
    (s.setCh k (imaStepChannel s.cfg a (s.ch k))).setPend
      (s.dec.pend ++ [(imaStepChannel s.cfg a (s.ch k)).pred]) := by
  simp [State.imaEmit, State.imaStep]

/-- Two codes in one chain: the second continues from the predictor and index the first left in CH[0] (R173). -/
theorem State.imaEmit_chain :
    let c0 := imaStepChannel s.cfg a s.dec.ch0
    let chain := imaStepChannel s.cfg b c0
    (s.imaEmit .zero a).imaEmit .zero b =
      { s with dec := { s.dec with ch0 := chain, pend := s.dec.pend ++ [c0.pred, chain.pred] } } := by
  simp only [State.imaEmit_eq, State.setPend_dec, List.append_assoc]
  rfl

/-- One code on each channel: neither sees the other's predictor (R173). -/
theorem State.imaEmit_pair :
    let c0 := imaStepChannel s.cfg a s.dec.ch0
    let c1 := imaStepChannel s.cfg b s.dec.ch1
    (s.imaEmit .zero a).imaEmit .one b =
      { s with dec := { s.dec with ch0 := c0, ch1 := c1, pend := s.dec.pend ++ [c0.pred, c1.pred] } } := by
  simp only [State.imaEmit_eq, State.setPend_dec, List.append_assoc]
  rfl

end Pairs

/-- In mono both codes of a stream body are decoded on CH[0] (R87, R173). -/
theorem imaStreamBody_mono {s : State} (h : s.conf.channels = .mono) (o : NibbleOrder) : imaStreamBody o s =
    ((s.advance 1).imaEmit .zero (firstCode o (s.byteAt 0))).imaEmit .zero (secondCode o (s.byteAt 0)) := by
  simp [imaStreamBody, State.isStereo, h]

/-- In stereo the second code of a stream body is decoded on CH[1] (R87, R173). -/
theorem imaStreamBody_stereo {s : State} (h : s.conf.channels = .stereo) (o : NibbleOrder) : imaStreamBody o s =
    ((s.advance 1).imaEmit .zero (firstCode o (s.byteAt 0))).imaEmit .one (secondCode o (s.byteAt 0)) := by
  simp [imaStreamBody, State.isStereo, h]

/-- DVI_BODY with its byte below LIMIT is performed in its nibble order (R121, R173). -/
theorem exec_dviBody {s : State} (hc : s.srcChanged = false) (h : s.cursor.toNat < s.limit) :
    exec .dviBody s = .next (imaStreamBody s.cfg.nibbleOrder.dvi s) :=
  congrArg _ (performUnit_available _ hc (by simpa using h))

/-- IMA_GENERIC_BODY with its byte below LIMIT is performed in its nibble order (R121, R175). -/
theorem exec_imaGenericBody {s : State} (hc : s.srcChanged = false) (h : s.cursor.toNat < s.limit) :
    exec .imaGenericBody s = .next (imaStreamBody s.cfg.nibbleOrder.imaGeneric s) :=
  congrArg _ (performUnit_available _ hc (by simpa using h))

/-- Settles O35: both units perform the same body; it is read by the channel of the second code. -/
theorem streamBodiesDecodeOneByte : Obligations.StreamBodiesDecodeOneByte := by
  intro s i o hi hc h b c0 chain c1 cur
  have hexec : exec i s = .next (imaStreamBody o s) := by
    rcases hi with ⟨rfl, rfl⟩ | ⟨rfl, rfl⟩
    · exact exec_dviBody hc h
    · exact exec_imaGenericBody hc h
  rw [hexec]
  refine ⟨fun hmono => ?mono, fun hstereo => ?stereo⟩
  case mono => rw [imaStreamBody_mono hmono, State.imaEmit_chain]; rfl
  case stereo => rw [imaStreamBody_stereo hstereo, State.imaEmit_pair]; rfl

end Sys2Proof.Machine
end

section
/-! PROOF. What the blocked IMA variants share (44_ima_blocked.md): a unit that is performed, and a cursor that moves more than
once. -/

namespace Sys2Proof.Machine

/-! ### A unit that is performed -/

/-- A unit with its bytes below LIMIT performs its rule, in a block whose source was not changed under the decoder (R121). -/
theorem exec_unit_available {i : Instr} {offs : List Nat} {body : State → State} {s : State}
    (he : exec i s = .next (performUnit offs body s)) (hc : s.srcChanged = false)
    (h : ∀ o ∈ offs, s.cursor.toNat + o < s.limit) : exec i s = .next (body s) :=
  he.trans (congrArg _ (performUnit_available body hc h))

/-- The first bytes of a row are below LIMIT when the last of them is. -/
theorem offsets_below {s : State} {n : Nat} (h : s.cursor.toNat + n < s.limit) :
    ∀ o ∈ List.range (n + 1), s.cursor.toNat + o < s.limit := fun o ho => by
  have := List.mem_range.1 ho
  omega

theorem State.isStereo_of_mono {s : State} (h : s.conf.channels = .mono) : s.isStereo = false := by
  simp [State.isStereo, h]

/-! ### CURSOR -/

/-- CURSOR moved on again is moved by the sum, wrapped or not (R8). -/
theorem cursor_add_add (c n : Nat) : BitVec.ofNat 32 ((BitVec.ofNat 32 c).toNat + n) = BitVec.ofNat 32 (c + n) :=
  BitVec.eq_of_toNat_eq (by simp)

/-- What CURSOR points at once it has moved on, where it does not wrap (R30). -/
theorem State.byteAt_zero_of_cursor {s t : State} {n : Nat} (hsrc : t.src = s.src)
    (hcur : t.cursor = BitVec.ofNat 32 (s.cursor.toNat + n)) (h : s.cursor.toNat + n < 2 ^ 32) :
    t.byteAt 0 = s.byteAt n := by
  have hn : t.cursor.toNat = s.cursor.toNat + n := by rw [hcur, BitVec.toNat_ofNat, Nat.mod_eq_of_lt h]
  rw [State.byteAt, State.addr, hsrc, hn, Nat.add_zero, State.byteAt]

@[simp] theorem State.setCh_byteAt (s : State) (k : Chan) (c : Channel) (o : Nat) : (s.setCh k c).byteAt o = s.byteAt o := by
  cases k <;> rfl

@[simp] theorem State.setNibble_byteAt (s : State) (t : Bool) (b : Byte) (o : Nat) :
    (s.setNibble t b).byteAt o = s.byteAt o := rfl

end Sys2Proof.Machine
end

section
/-! PROOF. Apple QuickTime IMA (44_ima_blocked.md R190-R193): the preambles a header loads, the codes of a body unit, and the skip
past channel 1's chunk. -/

namespace Sys2Proof.Machine

/-! ### APPLE_IMA_HEADER -/

/-- The mask of the top nine bits shifts the low seven out. -/
theorem applePred_eq_shift (v : Word16) : applePred v = v >>> 7 <<< 7 := by
  have h : 0xFF80#16 = BitVec.allOnes 16 <<< 7 := rfl
  ext i hi
  rw [applePred, h]
  simp only [BitVec.getElem_and, BitVec.getElem_shiftLeft, BitVec.getElem_allOnes]
  by_cases h7 : i < 7
  · simp [h7]
  · simp [h7, BitVec.getElem_eq_testBit_toNat, Nat.add_sub_cancel' (Nat.le_of_not_lt h7)]

/-- The predictor of a preamble is its value rounded down to a multiple of 128 (R89). -/
theorem applePred_toNat (v : Word16) : (applePred v).toNat = v.toNat / 128 * 128 := by
  rw [applePred_eq_shift]
  simp only [BitVec.toNat_shiftLeft, BitVec.toNat_ushiftRight, Nat.shiftLeft_eq, Nat.shiftRight_eq_div_pow]
  omega

/-- A channel loaded from a preamble of value `n`: the top nine bits and the low seven, in arithmetic (R89). -/
theorem applePreambleChannel_eq {c : Config} {src : List Host.Cell} {a n : Nat} (hn : n < 65536)
    (h : applePreamble c.applePreambleOrder src a = BitVec.ofNat 16 n) (ch : Channel) :
    applePreambleChannel c src a ch =
      { ch with pred := BitVec.ofNat 16 (n / 128 * 128), index := BitVec.ofNat 8 (min (n % 128) 88) } := by
  have hv : (BitVec.ofNat 16 n).toNat = n := Nat.mod_eq_of_lt hn
  have hp : applePred (BitVec.ofNat 16 n) = BitVec.ofNat 16 (n / 128 * 128) :=
    BitVec.eq_of_toNat_eq (by rw [applePred_toNat, hv, BitVec.toNat_ofNat]; omega)
  simp only [applePreambleChannel, h, hp, appleIndex, hv, headerIndex]

/-- APPLE_IMA_HEADER with its bytes below LIMIT (R121, R190). -/
theorem exec_appleImaHeader {s : State} (hc : s.srcChanged = false)
    (h : ∀ o ∈ appleHeaderOffsets s, s.cursor.toNat + o < s.limit) :
    exec .appleImaHeader s = .next (((appleLoad s).advance 2).beginBlock 2) :=
  congrArg _ (performUnit_available _ hc h)

/-- APPLE_IMA_HEADER in mono with its bytes below LIMIT loads the preamble, passes it and starts the block (R190). -/
theorem exec_appleImaHeader_mono {s : State} (hc : s.srcChanged = false) (hmono : s.conf.channels = .mono)
    (h : s.cursor.toNat + 1 < s.limit) :
    exec .appleImaHeader s = .next
      (((s.setCh .zero (applePreambleChannel s.cfg s.src s.cursor.toNat s.dec.ch0)).advance 2).beginBlock 2) := by
  have hs := State.isStereo_of_mono hmono
  have ha : ∀ o ∈ appleHeaderOffsets s, s.cursor.toNat + o < s.limit := by
    simpa [appleHeaderOffsets, hs] using ⟨Nat.lt_of_succ_lt h, h⟩
  rw [exec_appleImaHeader hc ha, appleLoad, if_neg (by simp [hs])]
  rfl

/-- In stereo it loads channel 1's preamble too, from the chunk at BA (R190). -/
theorem exec_appleImaHeader_stereo {s : State} (hc : s.srcChanged = false) (hstereo : s.conf.channels = .stereo)
    (h0 : s.cursor.toNat + 1 < s.limit) (h1 : s.cursor.toNat + s.conf.blockAlign.toNat + 1 < s.limit) :
    exec .appleImaHeader s = .next
      ((((s.setCh .zero (applePreambleChannel s.cfg s.src s.cursor.toNat s.dec.ch0)).setCh .one
        (applePreambleChannel s.cfg s.src (s.cursor.toNat + s.conf.blockAlign.toNat) s.dec.ch1)).advance 2).beginBlock
          2) := by
  have hs := s.isStereo_iff.2 hstereo
  have ha : ∀ o ∈ appleHeaderOffsets s, s.cursor.toNat + o < s.limit := by
    simpa [appleHeaderOffsets, hs] using ⟨Nat.lt_of_succ_lt h0, h0, Nat.lt_of_succ_lt h1, h1⟩
  rw [exec_appleImaHeader hc ha, appleLoad, if_pos hs]
  rfl

/-- Settles O36: by the channel count; a preamble's value by the byte order. -/
theorem appleHeaderLoadsThePreambles : Obligations.AppleHeaderLoadsThePreambles := by
  intro s hc at0 at1 lim v load
  have hload (a : Nat) (ch : Channel) : applePreambleChannel s.cfg s.src a ch = load a ch := by
    have h0 := (srcByte s.src a).isLt
    have h1 := (srcByte s.src (a + 1)).isLt
    cases ho : s.cfg.applePreambleOrder with
    | le =>
      simp only [load, v, ho]
      exact applePreambleChannel_eq (by omega) (by rw [ho, applePreamble, memRead_two]) ch
    | be =>
      simp only [load, v, ho]
      exact applePreambleChannel_eq (by omega) (by rw [ho, applePreamble, memReadBE_two]) ch
  refine ⟨fun hmono h0 => ?mono, fun hstereo h0 h1 => ?stereo⟩
  case mono => rw [exec_appleImaHeader_mono hc hmono h0, hload]; rfl
  case stereo => rw [exec_appleImaHeader_stereo hc hstereo h0 h1, hload, hload]; rfl

/-! ### APPLE_IMA_BODY -/

/-- APPLE_IMA_BODY with its bytes below LIMIT (R121, R191, R192). -/
theorem exec_appleImaBody {s : State} (hc : s.srcChanged = false)
    (h : ∀ o ∈ appleBodyOffsets s, s.cursor.toNat + o < s.limit) :
    exec .appleImaBody s = .next (if s.isStereo then appleStereoBody s else appleMonoBody s) :=
  congrArg _ (performUnit_available _ hc h)

/-- APPLE_IMA_BODY in mono with its byte below LIMIT (R191). -/
theorem exec_appleImaBody_mono {s : State} (hc : s.srcChanged = false) (hmono : s.conf.channels = .mono)
    (h : s.cursor.toNat < s.limit) : exec .appleImaBody s = .next (appleMonoBody s) := by
  have hs := State.isStereo_of_mono hmono
  have ha : ∀ o ∈ appleBodyOffsets s, s.cursor.toNat + o < s.limit := by simpa [appleBodyOffsets, hs] using h
  rw [exec_appleImaBody hc ha, if_neg (by simp [hs])]

/-- APPLE_IMA_BODY in stereo with a byte of each chunk below LIMIT (R192). -/
theorem exec_appleImaBody_stereo {s : State} (hc : s.srcChanged = false) (hstereo : s.conf.channels = .stereo)
    (h0 : s.cursor.toNat < s.limit) (h1 : s.cursor.toNat + s.conf.blockAlign.toNat < s.limit) :
    exec .appleImaBody s = .next (appleStereoBody s) := by
  have hs := s.isStereo_iff.2 hstereo
  have ha : ∀ o ∈ appleBodyOffsets s, s.cursor.toNat + o < s.limit := by
    simpa [appleBodyOffsets, hs] using ⟨h0, h1⟩
  rw [exec_appleImaBody hc ha, if_pos hs]

/-- A byte passed, and channel 1's chunk too when it was the last of the pair (R192, R193). -/
theorem appleSkip_consume_advance (s : State) : appleSkip ((s.advance 1).consume 1) =
    { s with
      cursor := BitVec.ofNat 32
        (if s.dec.blockRem - 1#32 = 0#32 then s.cursor.toNat + 1 + s.conf.blockAlign.toNat else s.cursor.toNat + 1)
      dec := { s.dec with blockRem := s.dec.blockRem - 1#32 } } := by
  by_cases h : s.dec.blockRem - 1#32 = 0#32
  · rw [if_pos h]
    exact (if_pos h).trans (congrArg (fun c => ({ s with cursor := c } : State).consume 1) (cursor_add_add ..))
  · rw [if_neg h]
    exact if_neg h

/-- A code on each channel, twice: each channel's second code continues from its first (R192). -/
theorem State.imaEmit_frames (s : State) (a b c d : Code) :
    let f0 := imaStepChannel s.cfg a s.dec.ch0
    let f1 := imaStepChannel s.cfg b s.dec.ch1
    let g0 := imaStepChannel s.cfg c f0
    let g1 := imaStepChannel s.cfg d f1
    (((s.imaEmit .zero a).imaEmit .one b).imaEmit .zero c).imaEmit .one d = { s with
      dec := { s.dec with ch0 := g0, ch1 := g1, pend := s.dec.pend ++ [f0.pred, f1.pred, g0.pred, g1.pred] } } := by
  simp only [State.imaEmit_pair, List.append_assoc]
  rfl

/-- A stereo body unit: the two frames, then the step to the next byte or past channel 1's chunk (R192). -/
theorem appleStereoBody_eq (s : State) :
    let o := s.cfg.nibbleOrder.appleIma
    let b0 := s.byteAt 0
    let b1 := s.byteAt s.conf.blockAlign.toNat
    let f0 := imaStepChannel s.cfg (firstCode o b0) s.dec.ch0
    let g0 := imaStepChannel s.cfg (secondCode o b0) f0
    let f1 := imaStepChannel s.cfg (firstCode o b1) s.dec.ch1
    let g1 := imaStepChannel s.cfg (secondCode o b1) f1
    let rem := s.dec.blockRem - 1#32
    appleStereoBody s = { s with
      cursor := BitVec.ofNat 32
        (if rem = 0#32 then s.cursor.toNat + 1 + s.conf.blockAlign.toNat else s.cursor.toNat + 1)
      dec := { s.dec with
        ch0 := g0, ch1 := g1, blockRem := rem, pend := s.dec.pend ++ [f0.pred, f1.pred, g0.pred, g1.pred] } } := by
  rw [appleStereoBody]
  simp only [State.imaEmit_frames, appleSkip_consume_advance]

/-- Settles O37: by the channel count. -/
theorem appleBodyDecodesItsBytes : Obligations.AppleBodyDecodesItsBytes := by
  intro s hc o lim cur ba b0 b1 f0 g0 f1 g1 rem
  refine ⟨fun hmono h0 => ?mono, fun hstereo h0 h1 => ?stereo⟩
  case mono => rw [exec_appleImaBody_mono hc hmono h0, appleMonoBody, State.imaEmit_chain]; rfl
  case stereo => rw [exec_appleImaBody_stereo hc hstereo h0 h1, appleStereoBody_eq]; rfl

end Sys2Proof.Machine
end

section
/-! PROOF. Microsoft IMA (44_ima_blocked.md R200-R203): the channels a header loads, a mono body's byte under each INVERT_MODE, and
the runs of codes in a stereo group. -/

namespace Sys2Proof.Machine

/-! ### The headers -/

/-- A channel loaded from a header entry, in arithmetic of its bytes (R90). -/
theorem msimaHeaderChannel_eq (src : List Host.Cell) (a : Nat) (ch : Channel) : msimaHeaderChannel src a ch =
    { ch with
      pred := BitVec.ofNat 16 ((srcByte src a).toNat + 256 * (srcByte src (a + 1)).toNat)
      index := BitVec.ofNat 8 (min (srcByte src (a + 2)).toNat 88) } := by
  rw [msimaHeaderChannel, memInt16, headerIndex, memRead_two, memRead_one]

/-- Settles O38: each header by its channels. -/
theorem msimaHeadersLoadTheChannels : Obligations.MsimaHeadersLoadTheChannels := by
  intro s hc cur lim load c0 c1
  have hload (a : Nat) (ch : Channel) : msimaHeaderChannel s.src a ch = load a ch := msimaHeaderChannel_eq ..
  refine ⟨fun h => ?mono, fun h => ?stereo⟩
  case mono =>
    rw [exec_unit_available (i := .msimaMonoHeader) rfl hc (offsets_below h)]
    simp only [hload]
    rfl
  case stereo =>
    rw [exec_unit_available (i := .msimaStereoHeader) rfl hc (offsets_below h)]
    simp only [hload]
    rfl

/-! ### MSIMA_MONO_BODY -/

theorem msimaInv_eq (c : Config) (invert : Bool) (code : Code) : msimaInv c invert code =
    if invert = true ∧ c.invertMode = .nibbleSign then code ^^^ 8#4 else code := by simp [msimaInv]

theorem msimaOut_eq (c : Config) (invert : Bool) (x : Sample) : msimaOut c invert x =
    if invert = true ∧ c.invertMode = .outputNegate then BitVec.ofInt 16 (min (max (-x.toInt) (-32768)) 32767) else x := by
  simp [msimaOut, int16, clamp16, clamp]

theorem msimaOrder_eq (c : Config) (invert : Bool) : msimaOrder c invert =
    if invert = true ∧ c.invertMode = .nibbleOrderSwap then swapOrder c.nibbleOrder.msima else c.nibbleOrder.msima := by
  simp [msimaOrder]

/-- One code of an MSIMA body: the channel is stepped and its sample is pushed (R201). -/
theorem State.msimaEmit_eq (s : State) (k : Chan) (code : Code) : s.msimaEmit k code =
    (s.setCh k (imaStepChannel s.cfg (msimaInv s.cfg s.conf.invert code) (s.ch k))).setPend
      (s.dec.pend ++
        [msimaOut s.cfg s.conf.invert (imaStepChannel s.cfg (msimaInv s.cfg s.conf.invert code) (s.ch k)).pred]) := by
  simp [State.msimaEmit, State.imaStep]

/-- Two codes in one chain, each with its sign and its sample as INVERT says (R201, R203). -/
theorem State.msimaEmit_chain (s : State) (a b : Code) :
    let c := imaStepChannel s.cfg (msimaInv s.cfg s.conf.invert a) s.dec.ch0
    let d := imaStepChannel s.cfg (msimaInv s.cfg s.conf.invert b) c
    (s.msimaEmit .zero a).msimaEmit .zero b = { s with
      dec := { s.dec with
        ch0 := d
        pend := s.dec.pend ++ [msimaOut s.cfg s.conf.invert c.pred, msimaOut s.cfg s.conf.invert d.pred] } } := by
  simp only [State.msimaEmit_eq, State.setPend_dec, List.append_assoc]
  rfl

/-- Settles O39: the two codes in one chain; each use of INVERT by its own equation. -/
theorem msimaMonoBodyDecodesOneByte : Obligations.MsimaMonoBodyDecodesOneByte := by
  intro s hc h b inverted inv outv o c d
  have hinv : msimaInv s.cfg s.conf.invert = inv := funext (msimaInv_eq _ _)
  have hout : msimaOut s.cfg s.conf.invert = outv := funext (msimaOut_eq _ _)
  have ho : msimaOrder s.cfg s.conf.invert = o := msimaOrder_eq ..
  rw [exec_unit_available (i := .msimaMonoBody) rfl hc (offsets_below (n := 0) h)]
  simp only [State.msimaEmit_chain, hinv, hout, ho]
  rfl

/-! ### MSIMA_STEREO_BODY -/

/-- A channel after a run of codes. -/
def msimaAfter (c : Config) (invert : Bool) (codes : List Code) (ch : Channel) : Channel :=
  codes.foldl (fun x code => imaStepChannel c (msimaInv c invert code) x) ch

/-- A run leaves the channel after all its codes, and its samples are the predictors after each (R202). -/
theorem msimaRun_eq (c : Config) (invert : Bool) (codes : List Code) (ch : Channel) : msimaRun c invert codes ch =
    (msimaAfter c invert codes ch, (List.range codes.length).map fun k =>
      msimaOut c invert (msimaAfter c invert (codes.take (k + 1)) ch).pred) := by
  induction codes generalizing ch with
  | nil => rfl
  | cons code rest ih =>
    rw [msimaRun, ih]
    simp [List.range_succ_eq_map, msimaAfter]

/-- Frames of two samples for each place. -/
theorem interleave_map (ks : List Nat) (f g : Nat → Sample) :
    interleave (ks.map f) (ks.map g) = ks.flatMap fun k => [f k, g k] := by
  induction ks with
  | nil => rfl
  | cons k rest ih => simp [interleave, ih]

/-- Both channels loaded, samples pushed, and the bytes of a group passed and counted off. -/
theorem State.group_eq (s : State) (c0 c1 : Channel) (xs : List Sample) (n : Nat) :
    ((((s.setCh .zero c0).setCh .one c1).emit xs).advance n).consume n = { s with
      cursor := BitVec.ofNat 32 (s.cursor.toNat + n)
      dec := { s.dec with
        ch0 := c0, ch1 := c1, blockRem := s.dec.blockRem - BitVec.ofNat 32 n, pend := s.dec.pend ++ xs } } := rfl

/-- Settles O40: each channel's run of eight codes, and the frames they make. -/
theorem msimaStereoBodyDecodesOneGroup : Obligations.MsimaStereoBodyDecodesOneGroup := by
  intro s hc h o codes after sample
  have hrun (ch : Channel) (j : Nat) : msimaRun s.cfg s.conf.invert (codes j) ch =
      (after ch (codes j) 7, [0, 1, 2, 3, 4, 5, 6, 7].map (sample ch (codes j))) := msimaRun_eq ..
  have ho : msimaOrder s.cfg s.conf.invert = o := rfl
  have h0 : codesOf o ([0, 1, 2, 3].map s.byteAt) = codes 0 := rfl
  have h1 : codesOf o ([4, 5, 6, 7].map s.byteAt) = codes 4 := rfl
  rw [exec_unit_available (i := .msimaStereoBody) rfl hc (offsets_below h)]
  simp only [ho, h0, h1, hrun, interleave_map]
  exact congrArg _ (State.group_eq ..)

end Sys2Proof.Machine
end

section
/-! PROOF. Duck DK3 IMA (44_ima_blocked.md R210-R214): the pairs a header loads, the nibbles of a body unit from either half of a
byte, and the combination of the two predictors. -/

namespace Sys2Proof.Machine

/-! ### DK3_HEADER -/

/-- A channel loaded from a header, in arithmetic of its bytes (R93). -/
theorem dk3HeaderChannel_eq (src : List Host.Cell) (p x : Nat) (ch : Channel) : dk3HeaderChannel src p x ch =
    { ch with
      pred := BitVec.ofNat 16 ((srcByte src p).toNat + 256 * (srcByte src (p + 1)).toNat)
      index := BitVec.ofNat 8 (min (srcByte src x).toNat 88) } := by
  rw [dk3HeaderChannel, memInt16, headerIndex, memRead_two, memRead_one]

/-- Settles O41: each channel from its place in the layout. -/
theorem dk3HeaderLoadsThePairs : Obligations.Dk3HeaderLoadsThePairs := by
  intro s hc h layout at' pred idx
  rw [exec_unit_available (i := .dk3Header) rfl hc (offsets_below h)]
  simp only [dk3HeaderChannel_eq]
  rfl

/-! ### DK3_BODY -/

/-- The frame of two channel records (R214). -/
def dk3Frame (m : Dk3Combine) (x y : Channel) : List Sample := [(dk3Combine m x.pred y.pred).1, (dk3Combine m x.pred y.pred).2]

/-- With no nibble left, the low half of the byte at CURSOR is decoded and the byte is kept for its high half (R211). -/
theorem State.dk3Step_low {s : State} (h : s.dec.topNib = false) (k : Chan) : s.dk3Step k =
    (((s.setNibble true (s.byteAt 0)).advance 1).consume 1).setCh k (imaStepChannel s.cfg (lo (s.byteAt 0)) (s.ch k)) := by
  rw [State.dk3Step, nextNibState, nextNibCode, if_neg (by simp [h]), if_neg (by simp [h])]
  cases k <;> rfl

/-- With a nibble left, it is decoded, and no byte is read (R211). -/
theorem State.dk3Step_high {s : State} (h : s.dec.topNib = true) (k : Chan) : s.dk3Step k =
    (s.setNibble false s.dec.lastByte).setCh k (imaStepChannel s.cfg (hi s.dec.lastByte) (s.ch k)) := by
  rw [State.dk3Step, nextNibState, nextNibCode, if_pos h, if_pos h]
  cases k <;> rfl

/-- A sum and a difference nibble that are the two halves of one byte, and their frame (R212, R213). -/
theorem dk3SdBody_low {s : State} (h : s.dec.topNib = false) :
    let x := imaStepChannel s.cfg (lo (s.byteAt 0)) s.dec.ch0
    let y := imaStepChannel s.cfg (hi (s.byteAt 0)) s.dec.ch1
    dk3SdBody s = { s with
      cursor := BitVec.ofNat 32 (s.cursor.toNat + 1)
      dec := { s.dec with
        ch0 := x, ch1 := y, topNib := false, lastByte := s.byteAt 0, blockRem := s.dec.blockRem - 1#32
        pend := s.dec.pend ++ dk3Frame s.cfg.dk3Combine x y } } := by
  rw [dk3SdBody, State.dk3Step_low h, State.dk3Step_high rfl]
  rfl

/-- A sum nibble from the byte before and a difference nibble from the byte at CURSOR, and their frame (R212). -/
theorem dk3SdBody_high {s : State} (h : s.dec.topNib = true) :
    let x := imaStepChannel s.cfg (hi s.dec.lastByte) s.dec.ch0
    let y := imaStepChannel s.cfg (lo (s.byteAt 0)) s.dec.ch1
    dk3SdBody s = { s with
      cursor := BitVec.ofNat 32 (s.cursor.toNat + 1)
      dec := { s.dec with
        ch0 := x, ch1 := y, topNib := true, lastByte := s.byteAt 0, blockRem := s.dec.blockRem - 1#32
        pend := s.dec.pend ++ dk3Frame s.cfg.dk3Combine x y } } := by
  rw [dk3SdBody, State.dk3Step_high h, State.dk3Step_low rfl, State.setCh_byteAt, State.setNibble_byteAt]
  simp only [State.ch_zero, State.ch_one, State.setCh_cfg, State.setNibble_cfg, State.setCh_zero_dec, State.setNibble_dec]
  -- With the records and the byte as variables, `rfl` compares the updates of the state and unfolds no IMA step.
  generalize imaStepChannel s.cfg (hi s.dec.lastByte) s.dec.ch0 = x
  generalize s.byteAt 0 = b
  generalize imaStepChannel s.cfg (lo b) s.dec.ch1 = y
  rfl

/-- Three nibbles are a pair with its frame and one more sum nibble with its frame (R212). -/
theorem dk3SdsBody_eq (s : State) : dk3SdsBody s = ((dk3SdBody s).dk3Step .zero).dk3Emit := rfl

/-- Three nibbles from the low half of the byte at CURSOR on: the third is the low half of the next byte (R212). -/
theorem dk3SdsBody_low {s : State} (h : s.dec.topNib = false) (hlt : s.cursor.toNat + 1 < 2 ^ 32) :
    let x := imaStepChannel s.cfg (lo (s.byteAt 0)) s.dec.ch0
    let y := imaStepChannel s.cfg (hi (s.byteAt 0)) s.dec.ch1
    let z := imaStepChannel s.cfg (lo (s.byteAt 1)) x
    dk3SdsBody s = { s with
      cursor := BitVec.ofNat 32 (s.cursor.toNat + 2)
      dec := { s.dec with
        ch0 := z, ch1 := y, topNib := true, lastByte := s.byteAt 1, blockRem := s.dec.blockRem - 2#32
        pend := s.dec.pend ++ (dk3Frame s.cfg.dk3Combine x y ++ dk3Frame s.cfg.dk3Combine z y) } } := by
  have hpair := dk3SdBody_low h
  have hbyte : (dk3SdBody s).byteAt 0 = s.byteAt 1 := by
    rw [hpair]
    exact State.byteAt_zero_of_cursor rfl rfl hlt
  have hrem : s.dec.blockRem - 1#32 - 1#32 = s.dec.blockRem - 2#32 := BitVec.sub_sub ..
  have hcur : BitVec.ofNat 32 ((BitVec.ofNat 32 (s.cursor.toNat + 1)).toNat + 1) =
      BitVec.ofNat 32 (s.cursor.toNat + 2) := cursor_add_add ..
  rw [dk3SdsBody_eq, State.dk3Step_low (by rw [hpair]), hbyte, hpair]
  simp only [← List.append_assoc, ← hrem, ← hcur]
  rfl

/-- Three nibbles from the high half of the last byte on: the third is the high half of the byte at CURSOR (R212). -/
theorem dk3SdsBody_high {s : State} (h : s.dec.topNib = true) :
    let x := imaStepChannel s.cfg (hi s.dec.lastByte) s.dec.ch0
    let y := imaStepChannel s.cfg (lo (s.byteAt 0)) s.dec.ch1
    let z := imaStepChannel s.cfg (hi (s.byteAt 0)) x
    dk3SdsBody s = { s with
      cursor := BitVec.ofNat 32 (s.cursor.toNat + 1)
      dec := { s.dec with
        ch0 := z, ch1 := y, topNib := false, lastByte := s.byteAt 0, blockRem := s.dec.blockRem - 1#32
        pend := s.dec.pend ++ (dk3Frame s.cfg.dk3Combine x y ++ dk3Frame s.cfg.dk3Combine z y) } } := by
  have hpair := dk3SdBody_high h
  rw [dk3SdsBody_eq, State.dk3Step_high (by rw [hpair]), hpair]
  simp only [← List.append_assoc]
  rfl

/-- The bytes of a DK3 body unit are below LIMIT when the last of them is (R96). -/
theorem dk3BodyOffsets_below {s : State} {n : Nat} (hu : dk3UnitBytes s = n + 1) (h : s.cursor.toNat + n < s.limit) :
    ∀ o ∈ dk3BodyOffsets s, s.cursor.toNat + o < s.limit := by
  rw [dk3BodyOffsets_eq, hu]
  exact offsets_below h

/-- DK3_BODY under SDS with its bytes below LIMIT (R121, R212). -/
theorem exec_dk3Body_sds {s : State} {n : Nat} (hc : s.srcChanged = false) (hs : s.cfg.dk3Schedule = .sds)
    (hu : dk3UnitBytes s = n + 1) (h : s.cursor.toNat + n < s.limit) : exec .dk3Body s = .next (dk3SdsBody s) := by
  rw [exec_unit_available (i := .dk3Body) rfl hc (dk3BodyOffsets_below hu h), hs]

/-- DK3_BODY under SD with its byte below LIMIT (R121, R213). -/
theorem exec_dk3Body_sd {s : State} (hc : s.srcChanged = false) (hs : s.cfg.dk3Schedule = .sd)
    (h : s.cursor.toNat < s.limit) : exec .dk3Body s = .next (dk3SdBody s) := by
  have hu : dk3UnitBytes s = 1 := by simp [dk3UnitBytes, hs]
  rw [exec_unit_available (i := .dk3Body) rfl hc (dk3BodyOffsets_below hu h), hs]

/-- Settles O42: by the schedule and the half-byte position. -/
theorem dk3BodyDecodesItsNibbles : Obligations.Dk3BodyDecodesItsNibbles := by
  intro s hc lim cur b0 b1 st frame
  refine ⟨fun hs hn h => ?sdsLow, fun hs hn h => ?sdsHigh, fun hs hn h => ?sd⟩
  case sdsLow =>
    have hu : dk3UnitBytes s = 2 := by simp [dk3UnitBytes, hs, hn]
    rw [exec_dk3Body_sds hc hs hu h, dk3SdsBody_low hn (Nat.lt_trans h s.limit_lt)]
    rfl
  case sdsHigh =>
    have hu : dk3UnitBytes s = 1 := by simp [dk3UnitBytes, hs, hn]
    rw [exec_dk3Body_sds hc hs hu h, dk3SdsBody_high hn]
    rfl
  case sd => rw [exec_dk3Body_sd hc hs h, dk3SdBody_low hn]; rfl

/-- Settles O43: each of the pair is a clamped sum narrowed to its width. -/
theorem dk3CombinesSumAndDifference : Obligations.Dk3CombinesSumAndDifference := fun _ _ =>
  ⟨int16_clamp16_toInt _, int16_clamp16_toInt _⟩

end Sys2Proof.Machine
end

section
/-! PROOF. The Microsoft ADPCM decoder (45_ms_adpcm.md): MSADPCM_STEP on a channel and its overflow, the channels a header loads,
and the two codes of a body byte. -/

namespace Sys2Proof.Machine

/-! ### MSADPCM_STEP -/

section Step
variable {cfg : Config} {code : Code} {ch : Channel}

/-- The new delta, with the division of a product of any sign written as a floor (R230). -/
theorem msNextDelta_eq_fdiv (cfg : Config) (code : Code) (ch : Channel) : msNextDelta cfg code ch =
    max ((ch.delta.toInt * adaptEntry cfg code.toInt.natAbs).fdiv 256) cfg.minDelta.toInt := by
  rw [Int.fdiv_eq_ediv_of_nonneg _ (by decide)]
  rfl

/-- Under FLOOR the prediction is the sum divided by 256, rounded down (R231). -/
theorem msPredicted_floor (h : cfg.predDiv = .floor) :
    msPredicted cfg ch = (msHistorySum cfg.history ch).fdiv 256 := by
  rw [msPredicted, h, Int.fdiv_eq_ediv_of_nonneg _ (by decide)]
  rfl

/-- Under TRUNC it is rounded toward zero (R231; log entry 23). -/
theorem msPredicted_trunc (h : cfg.predDiv = .trunc) :
    msPredicted cfg ch = (msHistorySum cfg.history ch).tdiv 256 := by
  rw [msPredicted, h]
  rfl

/-- The sample after a code, as a number (R230). -/
theorem msOutput_toInt (cfg : Config) (code : Code) (ch : Channel) : (msOutput cfg code ch).toInt =
    min (max (msPredicted cfg ch + code.toInt * ch.delta.toInt) (-32768)) 32767 :=
  int16_clamp16_toInt _

/-- The new delta is at least MSADPCM_MIN_DELTA, so one that does not overflow fits the word that holds it (R232). -/
theorem msNextDelta_toInt (h : msNextDelta cfg code ch ≤ 2 ^ 31 - 1) :
    (BitVec.ofInt 32 (msNextDelta cfg code ch)).toInt = msNextDelta cfg code ch := by
  have hmin : cfg.minDelta.toInt ≤ msNextDelta cfg code ch := le_max_right ..
  have hword := cfg.minDelta.le_toInt
  exact BitVec.toInt_ofInt_eq_self (by decide) (by omega) (by omega)

/-- A code whose new delta fits does not overflow (R230, R232). -/
theorem msStepChannel_of_le (h : msNextDelta cfg code ch ≤ 2 ^ 31 - 1) : msStepChannel cfg code ch =
    some { ch with s1 := ch.s2, s2 := msOutput cfg code ch, delta := BitVec.ofInt 32 (msNextDelta cfg code ch) } :=
  if_neg (not_lt.2 h)

/-- A code whose new delta does not fit overflows (R232). -/
theorem msStepChannel_of_lt (h : 2 ^ 31 - 1 < msNextDelta cfg code ch) : msStepChannel cfg code ch = none := if_pos h

variable {s : State} {k : Chan}

/-- MSADPCM_STEP updates its channel where the code does not overflow (R230). -/
theorem exec_msAdpcmStep_of_some (h : msStepChannel s.cfg code (s.ch k) = some ch) :
    exec (.msAdpcmStep k code) s = .next (s.setCh k ch) := by
  change execMsAdpcmStep k code s = _
  rw [execMsAdpcmStep, h]

/-- MSADPCM_STEP raises DELTA_OVERFLOW where it does (R232). -/
theorem exec_msAdpcmStep_of_none (h : msStepChannel s.cfg code (s.ch k) = none) :
    exec (.msAdpcmStep k code) s = .next (s.raise .deltaOverflow) := by
  change execMsAdpcmStep k code s = _
  rw [execMsAdpcmStep, h]

end Step

/-- Settles O29: the channel after a code that does not overflow, S2 and DELTA by their values; the prediction by each
MSADPCM_PRED_DIV. -/
theorem msAdpcmStepComputes : Obligations.MsAdpcmStepComputes := by
  intro s k c ch n sum p nd hfits
  have hp : msPredicted s.cfg ch = p := by
    cases hd : s.cfg.predDiv with
    | floor => simp only [p, hd]; exact msPredicted_floor hd
    | trunc => simp only [p, hd]; exact msPredicted_trunc hd
  have hnd : msNextDelta s.cfg c ch = nd := msNextDelta_eq_fdiv s.cfg c ch
  have hle : msNextDelta s.cfg c ch ≤ 2 ^ 31 - 1 := hnd ▸ hfits
  exact ⟨_, exec_msAdpcmStep_of_some (msStepChannel_of_le hle), rfl, hp ▸ msOutput_toInt s.cfg c ch,
    (msNextDelta_toInt hle).trans hnd⟩

/-- Settles O30: the new delta does not fit. -/
theorem msAdpcmStepOverflows : Obligations.MsAdpcmStepOverflows := fun s k c h =>
  exec_msAdpcmStep_of_none (msStepChannel_of_lt (by rwa [msNextDelta_eq_fdiv]))

/-! ### MS_ADPCM_HEADER -/

/-- A channel loaded from a header, in arithmetic of its bytes (R95). -/
theorem msHeaderChannel_eq (cfg : Config) (src : List Host.Cell) (base n c : Nat) (ch : Channel) :
    let word (a : Nat) : Word16 :=
      BitVec.ofNat 16 ((srcByte src (base + a)).toNat + 256 * (srcByte src (base + a + 1)).toNat)
    let m := headerMode cfg (srcByte src (base + c))
    msHeaderChannel cfg src base n c ch = { ch with
      mode := m
      coef1 := (coefEntry cfg m.toNat).1
      coef2 := (coefEntry cfg m.toNat).2
      delta := (word (n + 2 * c)).signExtend 32
      s2 := word (3 * n + 2 * c)
      s1 := word (5 * n + 2 * c) } := by
  simp only [msHeaderChannel, headerDelta, memInt16, memRead_two, Nat.add_assoc]

/-- MS_ADPCM_HEADER in mono with its bytes below LIMIT loads CH[0], passes the header and starts the block (R121, R233). -/
theorem exec_msAdpcmHeader_mono {s : State} (hc : s.srcChanged = false) (hmono : s.conf.channels = .mono)
    (h : s.cursor.toNat + 6 < s.limit) :
    exec .msAdpcmHeader s = .next (((msMonoHeader s).advance 7).beginBlock 7) := by
  have hs := State.isStereo_of_mono hmono
  have hn : 7 * s.unitChannels = 7 := by simp [State.unitChannels, hs]
  rw [exec_unit_available (i := .msAdpcmHeader) rfl hc (by rw [hn]; exact offsets_below h), hn, if_neg (by simp [hs])]

/-- In stereo it loads both channels, from a header of twice the length (R121, R233). -/
theorem exec_msAdpcmHeader_stereo {s : State} (hc : s.srcChanged = false) (hstereo : s.conf.channels = .stereo)
    (h : s.cursor.toNat + 13 < s.limit) :
    exec .msAdpcmHeader s = .next (((msStereoHeader s).advance 14).beginBlock 14) := by
  have hs := s.isStereo_iff.2 hstereo
  have hn : 7 * s.unitChannels = 14 := by simp [State.unitChannels, hs]
  rw [exec_unit_available (i := .msAdpcmHeader) rfl hc (by rw [hn]; exact offsets_below h), hn, if_pos hs]

/-- Settles O44: by the channel count; each channel from its place in the field-major header. -/
theorem msAdpcmHeaderLoadsTheSeeds : Obligations.MsAdpcmHeaderLoadsTheSeeds := by
  intro s hc cur lim word load
  have hload (n c : Nat) (ch : Channel) : msHeaderChannel s.cfg s.src (s.addr 0) n c ch = load n c ch :=
    msHeaderChannel_eq ..
  refine ⟨fun hmono h => ?mono, fun hstereo h => ?stereo⟩
  case mono => rw [exec_msAdpcmHeader_mono hc hmono h, msMonoHeader, hload]; rfl
  case stereo => rw [exec_msAdpcmHeader_stereo hc hstereo h, msStereoHeader, hload, hload]; rfl

/-! ### MS_ADPCM_BODY -/

section Body
variable {s : State}

/-- One code of the body: the channel is stepped and its newer sample is pushed, unless it overflows (R230, R234). -/
theorem State.msEmit_eq (s : State) (k : Chan) (code : Code) : s.msEmit k code =
    (msStepChannel s.cfg code (s.ch k)).map fun c => (s.setCh k c).emit [c.s2] := by
  rw [State.msEmit]
  cases msStepChannel s.cfg code (s.ch k) <;> rfl

/-- The second code is decoded where the first does not overflow (R232, R234). -/
theorem msBodyCodes_eq (s : State) : msBodyCodes s =
    (s.msEmit .zero (firstCode s.cfg.nibbleOrder.msAdpcm (s.byteAt 0))).bind fun t =>
      t.msEmit (if s.isStereo then .one else .zero) (secondCode s.cfg.nibbleOrder.msAdpcm (s.byteAt 0)) := by
  simp only [msBodyCodes]
  cases s.msEmit .zero (firstCode s.cfg.nibbleOrder.msAdpcm (s.byteAt 0)) <;> rfl

/-- Two codes in one chain: the second continues from what the first left in CH[0] (R234). -/
theorem msBodyCodes_mono (h : s.conf.channels = .mono) :
    let o := s.cfg.nibbleOrder.msAdpcm
    msBodyCodes s = (msStepChannel s.cfg (firstCode o (s.byteAt 0)) s.dec.ch0).bind fun c =>
      (msStepChannel s.cfg (secondCode o (s.byteAt 0)) c).map fun d =>
        { s with dec := { s.dec with ch0 := d, pend := s.dec.pend ++ [c.s2, d.s2] } } := by
  simp only [msBodyCodes_eq, State.msEmit_eq, State.isStereo_of_mono h, Option.bind_map, Function.comp_def, State.emit_eq,
    State.setPend_dec, State.setCh_pend, List.append_assoc]
  rfl

/-- One code on each channel (R234). -/
theorem msBodyCodes_stereo (h : s.conf.channels = .stereo) :
    let o := s.cfg.nibbleOrder.msAdpcm
    msBodyCodes s = (msStepChannel s.cfg (firstCode o (s.byteAt 0)) s.dec.ch0).bind fun c =>
      (msStepChannel s.cfg (secondCode o (s.byteAt 0)) s.dec.ch1).map fun d =>
        { s with dec := { s.dec with ch0 := c, ch1 := d, pend := s.dec.pend ++ [c.s2, d.s2] } } := by
  simp only [msBodyCodes_eq, State.msEmit_eq, s.isStereo_iff.2 h, Option.bind_map, Function.comp_def, State.emit_eq,
    State.setPend_dec, State.setCh_pend, List.append_assoc]
  rfl

/-- In either form a first code that overflows ends the unit (R232). -/
theorem msBodyCodes_of_first_none
    (h : msStepChannel s.cfg (firstCode s.cfg.nibbleOrder.msAdpcm (s.byteAt 0)) s.dec.ch0 = none) :
    msBodyCodes s = none := by
  rw [msBodyCodes_eq, State.msEmit_eq, State.ch_zero, h]
  rfl

variable (hc : s.srcChanged = false) (h : s.cursor.toNat < s.limit)
include hc h

/-- MS_ADPCM_BODY with its byte below LIMIT passes the byte once both codes are decoded (R121, R234). -/
theorem exec_msAdpcmBody_of_some {t : State} (ht : msBodyCodes s = some t) :
    exec .msAdpcmBody s = .next ((t.advance 1).consume 1) := by
  rw [exec_unit_available (i := .msAdpcmBody) rfl hc (offsets_below (n := 0) h), ht]

/-- It writes nothing but FAULTREG where either code overflows (R232). -/
theorem exec_msAdpcmBody_of_none (hn : msBodyCodes s = none) :
    exec .msAdpcmBody s = .next { s with faultReg := 2#4 } := by
  rw [exec_unit_available (i := .msAdpcmBody) rfl hc (offsets_below (n := 0) h), hn]
  rfl

end Body

/-- Settles O45: by the channel of the second code; either code may overflow. -/
theorem msAdpcmBodyDecodesOneByte : Obligations.MsAdpcmBodyDecodesOneByte := by
  intro s hc h b o first second cur rem overflowed
  refine ⟨fun hmono => ?mono, fun hstereo => ?stereo, fun hfirst => ?overflow⟩
  case overflow => exact exec_msAdpcmBody_of_none hc h (msBodyCodes_of_first_none hfirst)
  case mono =>
    have hcodes : msBodyCodes s = first.bind fun c => (second c).map fun d =>
        { s with dec := { s.dec with ch0 := d, pend := s.dec.pend ++ [c.s2, d.s2] } } := msBodyCodes_mono hmono
    refine ⟨fun c d hfirst hsecond => ?_, fun c hfirst hsecond => ?_⟩
    · exact exec_msAdpcmBody_of_some hc h (by rw [hcodes, hfirst, Option.bind_some, hsecond, Option.map_some])
    · exact exec_msAdpcmBody_of_none hc h (by rw [hcodes, hfirst, Option.bind_some, hsecond, Option.map_none])
  case stereo =>
    have hcodes : msBodyCodes s = first.bind fun c => (second s.dec.ch1).map fun d =>
        { s with dec := { s.dec with ch0 := c, ch1 := d, pend := s.dec.pend ++ [c.s2, d.s2] } } :=
      msBodyCodes_stereo hstereo
    refine ⟨fun c d hfirst hsecond => ?_, fun c hfirst hsecond => ?_⟩
    · exact exec_msAdpcmBody_of_some hc h (by rw [hcodes, hfirst, Option.bind_some, hsecond, Option.map_some])
    · exact exec_msAdpcmBody_of_none hc h (by rw [hcodes, hfirst, Option.bind_some, hsecond, Option.map_none])

end Sys2Proof.Machine
end

section
/-! PROOF. The faults (60_exceptions.md): no instruction stops the machine, and FAULTREG holds a code that is raised. -/

namespace Sys2Proof.Machine

/-- MSADPCM_STEP answers a next state whether or not its delta overflows (R230, R232). -/
theorem execMsAdpcmStep_answers (k : Chan) (code : Code) (s : State) : ∃ t, execMsAdpcmStep k code s = .next t := by
  unfold execMsAdpcmStep
  split <;> exact ⟨_, rfl⟩

/-- Settles O46: an error or a fault is part of the next state, in commands, units and primitives alike. -/
theorem everyInstructionAnswersNext : Obligations.EveryInstructionAnswersNext := by
  intro i s
  cases i with
  | configure | readBuffer | endOfData | isStereo | getRate | rewind | release => exact ⟨_, rfl⟩
  | okiBody | imaGenericBody | dviBody | appleImaHeader | appleImaBody | msimaMonoHeader | msimaMonoBody
  | msimaStereoHeader | msimaStereoBody | dk3Header | dk3Body | msAdpcmHeader | msAdpcmBody => exact ⟨_, exec_unit rfl s⟩
  | imaStep | okiStep => exact ⟨_, rfl⟩
  | msAdpcmStep k code => exact execMsAdpcmStep_answers k code s

/-- A unit leaves FAULTREG alone, or raises DELTA_OVERFLOW (R232, R257). -/
theorem dispatchUnit_faultReg (s : State) :
    (dispatchUnit s).faultReg = s.faultReg ∨ (dispatchUnit s).faultReg = 2#4 := by
  obtain ⟨i, hi, -, e⟩ := dispatchUnit_formed s
  rw [e]
  rcases runUnit_outcome hi s with e | ⟨-, ⟨-, hfault, -⟩ | ⟨-, e⟩⟩
  · rw [e]; exact .inl rfl
  · exact .inl hfault
  · rw [e]; exact .inr rfl

/-- The two raises are a read at an undefined position and a unit that overflows (R257); RELEASE and REWIND do not clear them. -/
theorem faultCodeLegal_stepInvariant : StepInvariant FaultCodeLegal where
  bare _ := Iff.rfl
  latch _ _ _ _ hs := hs
  undefinedRead _ _ _ := .inr (.inl rfl)
  pop _ _ _ _ _ hs := hs
  unit s _ _ _ _ hs := by
    unfold FaultCodeLegal
    rcases dispatchUnit_faultReg s with e | e
    · rw [e]; exact hs
    · exact .inr (.inr e)
  rewind _ _ hs := hs
  seekFailed _ _ hs := hs
  release _ hs := hs
  source _ _ _ hs := hs

/-- Settles O59: FAULTREG changes only where one of the two codes is raised. -/
theorem stepsKeepTheFaultCodeLegal : Obligations.StepsKeepTheFaultCodeLegal :=
  faultCodeLegal_stepInvariant.step

end Sys2Proof.Machine
end

section
/-! PROOF. Reset and hazards (70_reset_and_hazards.md R282, R286): what a REWIND restores, the replay of a read after it, and the
units of a block whose source was changed under the decoder. The last two rest on one fact: what a unit's rule computes does not
depend on the record of such a change, nor on the count of draws. -/

namespace Sys2Proof.Machine

/-! ### The record that no rule reads -/

/-- The state with another record of a changed source and another count of draws (log entries 5 and 25). -/
def State.recorded (s : State) (changed : Bool) (n : Nat) : State := { s with srcChanged := changed, draws := n }

/-- A rule that neither reads nor writes that record. -/
def IgnoresRecord (rule : State → State) : Prop := ∀ s changed n, rule (s.recorded changed n) = (rule s).recorded changed n

section Operations
variable (s : State) (b : Bool) (n : Nat) (k : Chan) (c : Code)

@[simp] theorem State.recorded_conf : (s.recorded b n).conf = s.conf := rfl
@[simp] theorem State.recorded_dec : (s.recorded b n).dec = s.dec := rfl
@[simp] theorem State.recorded_cursor : (s.recorded b n).cursor = s.cursor := rfl
@[simp] theorem State.recorded_cfg : (s.recorded b n).cfg = s.cfg := rfl
@[simp] theorem State.recorded_src : (s.recorded b n).src = s.src := rfl
@[simp] theorem State.recorded_isStereo : (s.recorded b n).isStereo = s.isStereo := State.isStereo_congr rfl
@[simp] theorem State.recorded_unitChannels : (s.recorded b n).unitChannels = s.unitChannels := rfl
@[simp] theorem State.recorded_addr (o : Nat) : (s.recorded b n).addr o = s.addr o := rfl
@[simp] theorem State.recorded_byteAt : (s.recorded b n).byteAt = s.byteAt := rfl
@[simp] theorem State.recorded_ch : (s.recorded b n).ch k = s.ch k := by cases k <;> rfl

@[simp] theorem State.setCh_recorded (x : Channel) : (s.recorded b n).setCh k x = (s.setCh k x).recorded b n := by
  cases k <;> rfl
@[simp] theorem State.setPend_recorded (p : List Sample) : (s.recorded b n).setPend p = (s.setPend p).recorded b n := rfl
@[simp] theorem State.setBlockRem_recorded (r : Word32) :
    (s.recorded b n).setBlockRem r = (s.setBlockRem r).recorded b n := rfl
@[simp] theorem State.setNibble_recorded (t : Bool) (x : Byte) :
    (s.recorded b n).setNibble t x = (s.setNibble t x).recorded b n := rfl
@[simp] theorem State.advance_recorded (m : Nat) : (s.recorded b n).advance m = (s.advance m).recorded b n := rfl
@[simp] theorem State.raise_recorded (f : FaultCode) : (s.recorded b n).raise f = (s.raise f).recorded b n := rfl

@[simp] theorem State.imaStep_recorded : (s.recorded b n).imaStep k c = (s.imaStep k c).recorded b n := by
  simp [State.imaStep]
@[simp] theorem State.imaEmit_recorded : (s.recorded b n).imaEmit k c = (s.imaEmit k c).recorded b n := by
  simp [State.imaEmit]
@[simp] theorem State.okiEmit_recorded : (s.recorded b n).okiEmit k c = (s.okiEmit k c).recorded b n := by
  simp [State.okiEmit, State.okiStep]
@[simp] theorem State.msimaEmit_recorded : (s.recorded b n).msimaEmit k c = (s.msimaEmit k c).recorded b n := by
  simp [State.msimaEmit]
@[simp] theorem State.msEmit_recorded : (s.recorded b n).msEmit k c = (s.msEmit k c).map (·.recorded b n) := by
  simp only [State.msEmit, recorded_cfg, recorded_ch]
  split <;> simp
@[simp] theorem okiSecondChan_recorded : okiSecondChan (s.recorded b n) = okiSecondChan s := rfl
@[simp] theorem nextNibState_recorded : nextNibState (s.recorded b n) = (nextNibState s).recorded b n := by
  unfold nextNibState
  rw [State.recorded_dec]
  split <;> simp
@[simp] theorem nextNibCode_recorded : nextNibCode (s.recorded b n) = nextNibCode s := rfl
@[simp] theorem State.dk3Step_recorded : (s.recorded b n).dk3Step k = (s.dk3Step k).recorded b n := by
  simp [State.dk3Step]
@[simp] theorem State.dk3Emit_recorded : (s.recorded b n).dk3Emit = s.dk3Emit.recorded b n := rfl
@[simp] theorem appleSkip_recorded : appleSkip (s.recorded b n) = (appleSkip s).recorded b n := by
  unfold appleSkip
  rw [State.recorded_dec]
  split <;> simp

end Operations

/-! ### Every unit performs a rule that ignores the record -/

section Rules
variable (s : State) (b : Bool) (n : Nat)

theorem imaStreamBody_recorded (o : NibbleOrder) : imaStreamBody o (s.recorded b n) = (imaStreamBody o s).recorded b n := by
  simp [imaStreamBody]

theorem appleLoad_recorded : appleLoad (s.recorded b n) = (appleLoad s).recorded b n := by
  unfold appleLoad
  rw [State.recorded_isStereo]
  split <;> simp

theorem msBodyCodes_recorded : msBodyCodes (s.recorded b n) = (msBodyCodes s).map (·.recorded b n) := by
  simp only [msBodyCodes, State.recorded_byteAt, State.recorded_cfg, State.recorded_isStereo, State.msEmit_recorded]
  cases s.msEmit .zero (firstCode s.cfg.nibbleOrder.msAdpcm (s.byteAt 0)) <;> simp

end Rules

/-- The unit `i` is the unit check on the bytes of its row, and then a rule that ignores the record (R96, R121). -/
def PerformsRule (i : Instr) : Prop :=
  ∃ rule, IgnoresRecord rule ∧ ∀ s, runUnit i s = performUnit (unitOffsets i s) rule s

theorem PerformsRule.intro {i : Instr} {offs : State → List Nat} {rule : State → State}
    (he : ∀ s, runUnit i s = performUnit (offs s) rule s) (ho : ∀ s, offs s = unitOffsets i s) (h : IgnoresRecord rule) :
    PerformsRule i := ⟨rule, h, fun s => ho s ▸ he s⟩

theorem performsRule_of_isUnit {i : Instr} (hi : i.isUnit = true) : PerformsRule i := by
  cases i with
  | okiBody | msimaMonoHeader | msimaMonoBody | msimaStereoHeader | msimaStereoBody | dk3Header =>
    exact .intro (fun _ => rfl) (fun _ => rfl) fun s b n => by simp
  | imaGenericBody | dviBody => exact .intro (fun _ => rfl) (fun _ => rfl) fun s b n => by rw [imaStreamBody_recorded]; rfl
  | appleImaHeader => exact .intro (fun _ => rfl) (fun _ => rfl) fun s b n => by rw [appleLoad_recorded]; rfl
  | appleImaBody =>
    refine .intro (offs := appleBodyOffsets) (rule := fun s => if s.isStereo then appleStereoBody s else appleMonoBody s)
      (fun _ => rfl) (fun _ => rfl) fun s b n => ?_
    dsimp only
    rw [State.recorded_isStereo]
    split <;> simp [appleStereoBody, appleMonoBody]
  | dk3Body =>
    refine .intro (fun _ => rfl) dk3BodyOffsets_eq fun s b n => ?_
    rw [State.recorded_cfg]
    split <;> simp [dk3SdsBody, dk3SdBody]
  | msAdpcmHeader =>
    refine .intro (fun _ => rfl) (fun _ => rfl) fun s b n => ?_
    rw [State.recorded_isStereo]
    split <;> simp [msStereoHeader, msMonoHeader]
  | msAdpcmBody =>
    refine .intro (fun _ => rfl) (fun _ => rfl) fun s b n => ?_
    rw [msBodyCodes_recorded]
    cases msBodyCodes s <;> simp
  | configure | readBuffer | endOfData | isStereo | getRate | rewind | release => cases hi
  | imaStep | okiStep | msAdpcmStep => cases hi

/-- The bytes of a row do not depend on the source, nor on the record (R96). -/
theorem unitOffsets_withSource (i : Instr) (s : State) (src : List Host.Cell) (changed : Bool) (n : Nat) :
    unitOffsets i { s with src := src, srcChanged := changed, draws := n } = unitOffsets i s := by cases i <;> rfl

/-! ### Units of a changed source -/

/-- Settles O60: the unit's rule makes of the free bytes what it makes of the same bytes in a source that was not changed, as it
ignores the record of the change. -/
theorem unitsOfAChangedSourceAreUnpredictable : Obligations.UnitsOfAChangedSourceAreUnpredictable := by
  intro i s hi hc ha free
  obtain ⟨rule, hrule, hunit⟩ := performsRule_of_isUnit hi
  have hfree : runUnit i free = rule free := by
    rw [hunit, unitOffsets_withSource]
    exact performUnit_available rule rfl ha
  have hrecord : { s with src := s.freeSource (unitOffsets i s) } = free.recorded true s.draws := by rw [← hc]; rfl
  have hs : runUnit i s = s.unpredictable ((runUnit i free).recorded true s.draws) := by
    rw [hunit, performUnit_unpredictable rule hc ha, hrecord, hrule, hfree]
  refine ⟨_, exec_unit hi free, (exec_unit hi s).trans ?_⟩
  rw [hs]
  obtain ⟨d, c, f, n, e⟩ : ∃ d c f n, runUnit i free = { free with dec := d, cursor := c, faultReg := f, draws := n } :=
    ⟨_, _, _, _, (runUnit_frame i free).1⟩
  rw [e, ← hc]
  rfl

/-! ### Replay -/

/-- In a block whose source was not changed under the decoder, a unit does not depend on the count of draws. -/
theorem runUnit_recorded {i : Instr} {s : State} (hi : i.isUnit = true) (hc : s.srcChanged = false) (n : Nat) :
    runUnit i (s.recorded false n) = (runUnit i s).recorded false n := by
  obtain ⟨rule, hrule, hunit⟩ := performsRule_of_isUnit hi
  have hoffsets : unitOffsets i (s.recorded false n) = unitOffsets i s := unitOffsets_withSource i s ..
  rw [hunit, hunit, hoffsets]
  by_cases ha : ∀ o ∈ unitOffsets i s, s.cursor.toNat + o < s.limit
  · rw [performUnit_available rule hc ha, performUnit_available (s := s.recorded false n) rule rfl ha, hrule]
  · push Not at ha
    obtain ⟨o, ho, h⟩ := ha
    rw [performUnit_cutOff rule ho h, performUnit_cutOff (s := s.recorded false n) rule ho h]
    rfl

theorem dispatchUnit_recorded {s : State} (hc : s.srcChanged = false) (n : Nat) :
    dispatchUnit (s.recorded false n) = (dispatchUnit s).recorded false n := by
  obtain ⟨i, hd, hi, -⟩ := decodeDispatch_dispatchWord s
  unfold dispatchUnit
  rw [show (s.recorded false n).dispatchWord = s.dispatchWord from rfl, hd]
  exact runUnit_recorded hi hc n

theorem readAll_recorded {s : State} (hc : s.srcChanged = false) (m n : Nat) (out : List Sample) :
    readAll m out (s.recorded false n) = ((readAll m out s).1, (readAll m out s).2.recorded false n) := by
  induction out, s using readAll_turns (n := m) with
  | done out s h => rw [readAll_done h, readAll_done h]
  | stop out s _ hp hs => rw [readAll_stop hp hs, readAll_stop (s := s.recorded false n) hp hs]
  | pop out s x rest h hp ih =>
    rw [readAll_pop h hp, readAll_pop (s := s.recorded false n) h hp, State.setPend_recorded, ih hc]
  | unit out s h hp hs ih =>
    rw [readAll_unit h hp hs, readAll_unit (s := s.recorded false n) h hp hs, dispatchUnit_recorded hc,
      ih ((dispatchUnit_frame s).srcChanged_eq.trans hc)]

/-- `t` stands where `s` does as far as a read can see: what the host wrote and was given, and the count of draws, may differ. -/
def StandsLike (s t : State) : Prop :=
  ∃ n h, t = (s.recorded s.srcChanged n).hostedBy h ∧ h.life = s.life ∧ h.cursorValid = s.cursorValid

/-- Two commands in `s` and `t` leave the same decoder, CURSOR and FAULTREG, report the same, and deliver the same samples. -/
def ReadsLike (s t s' t' : State) : Prop :=
  s'.dec = t'.dec ∧ s'.cursor = t'.cursor ∧ s'.faultReg = t'.faultReg ∧ s'.result = t'.result ∧ s'.status = t'.status ∧
    ∃ out, s'.samplePort = s.samplePort ++ out ∧ t'.samplePort = t.samplePort ++ out

section
variable {s t : State}
theorem StandsLike.faultReg_eq : StandsLike s t → t.faultReg = s.faultReg := by rintro ⟨n, h, rfl, -⟩; rfl
theorem StandsLike.life_eq : StandsLike s t → t.life = s.life := by rintro ⟨n, h, rfl, hl, -⟩; exact hl
theorem StandsLike.cursorValid_eq : StandsLike s t → t.cursorValid = s.cursorValid := by rintro ⟨n, h, rfl, -, hv⟩; exact hv
end

/-- STATUS shows nothing of the host and of the draws (R40). -/
theorem StandsLike.statusNow {s t : State} (h : StandsLike s t) (short : Bool) (err : Err) :
    t.statusNow short err = s.statusNow short err := by
  unfold State.statusNow State.isConfigured
  simp only [h.life_eq, h.cursorValid_eq]
  obtain ⟨n, h, rfl, -⟩ := h
  rfl

/-- A command that ends alike in blocks that stand alike is reported alike (R128). -/
theorem StandsLike.finish {s t u v : State} (h : StandsLike u v) (hs : u.samplePort = s.samplePort)
    (ht : v.samplePort = t.samplePort) (out : List Sample) (r : Word32) (short : Bool) (err : Err) :
    ReadsLike s t ((u.deliver out).finish r short err) ((v.deliver out).finish r short err) := by
  have hstatus := h.statusNow short err
  obtain ⟨n, h, rfl, -⟩ := h
  exact ⟨rfl, rfl, rfl, rfl, hstatus.symm, out, congrArg (· ++ out) hs, congrArg (· ++ out) ht⟩

theorem StandsLike.refuse {s t : State} (h : StandsLike s t) (err : Err) : ReadsLike s t (s.refuse err) (t.refuse err) := by
  simpa using h.finish rfl rfl [] 0#32 false err

theorem StandsLike.finishRead {s t u v : State} (h : StandsLike u v) (hs : u.samplePort = s.samplePort)
    (ht : v.samplePort = t.samplePort) (m : Nat) (out : List Sample) :
    ReadsLike s t (finishRead m out u) (finishRead m out v) := by
  have hfault : v.isFaulted = u.isFaulted := by unfold State.isFaulted; rw [h.faultReg_eq]
  unfold Machine.finishRead
  rw [hfault]
  split <;> exact h.finish hs ht ..

/-- ReadLoop collects the same samples in blocks that stand alike, and leaves them standing alike (R121, R286). -/
theorem StandsLike.readSamples {s t : State} (h : StandsLike s t) (hc : s.srcChanged = false) (m : Nat) :
    (readSamples m t).1 = (readSamples m s).1 ∧ StandsLike (readSamples m s).2 (readSamples m t).2 := by
  obtain ⟨n, h, rfl, hl, hv⟩ := h
  have frame := readAll_frame m [] s
  rw [readSamples_eq_readAll, readSamples_eq_readAll, readAll_hostedBy, hc, readAll_recorded hc]
  refine ⟨rfl, n, h, by rw [frame.srcChanged_eq, hc], hl.trans frame.life_eq.symm, hv.trans frame.cursorValid_eq.symm⟩

theorem readSamples_samplePort (m : Nat) (s : State) : (readSamples m s).2.samplePort = s.samplePort := by
  rw [readSamples_eq_readAll, (readAll_frame m [] s).1]

/-- READ_BUFFER with the same A_MAX in two blocks that stand alike, at a defined position of a source that was not changed. -/
theorem StandsLike.readBufferBody {s t : State} (h : StandsLike s t) (hc : s.srcChanged = false)
    (hv : s.cursorValid = true) (hmax : s.args.max = t.args.max) :
    ReadsLike s t (readBufferBody s) (readBufferBody t) := by
  have hstrict : t.cfg.strictGranule = s.cfg.strictGranule := by obtain ⟨n, h, rfl, -⟩ := h; rfl
  have hgranule : granule t = granule s := by obtain ⟨n, h, rfl, -⟩ := h; rfl
  obtain ⟨hout, hstand⟩ := h.readSamples hc (maxSamples s.args.max)
  unfold Machine.readBufferBody
  dsimp only
  rw [← hmax, h.cursorValid_eq, hv, hstrict, hgranule, hout]
  simp only [Bool.not_true, Bool.false_eq_true, if_false]
  split
  · exact h.refuse _
  · split
    · exact h.refuse _
    · exact hstand.finishRead (readSamples_samplePort ..) (readSamples_samplePort ..) ..

/-- A REWIND whose seek succeeds leaves two blocks of one configuration, source and lifecycle state standing alike (R118, R120). -/
theorem standsLike_rewindWith {s t : State} (hf : t.faultReg = s.faultReg) (hl : t.life = s.life)
    (hchanged : t.srcChanged = s.srcChanged) (hconf : t.conf = s.conf) (hcfg : t.cfg = s.cfg) (hsrc : t.src = s.src)
    (hlen : t.srcLen = s.srcLen) : StandsLike (rewindWith true s) (rewindWith true t) := by
  refine ⟨t.draws, rewindWith true t, ?_, hl, rfl⟩
  cases s
  cases t
  subst hf hl hchanged hconf hcfg hsrc hlen
  rfl

/-- Settles O24: the two blocks stand alike after the REWIND. -/
theorem replayAfterRewindIsDeterministic : Obligations.ReplayAfterRewindIsDeterministic := by
  intro s t s' t' hsf htf hsl htl hsc htc hconf hcfg hsrc hlen hmax hs ht
  have h : StandsLike (rewindWith true s) (rewindWith true t) :=
    standsLike_rewindWith (htf.trans hsf.symm) (htl.trans hsl.symm) (htc.trans hsc.symm) hconf.symm hcfg.symm hsrc.symm hlen.symm
  cases (exec_readBuffer (s := rewindWith true s) hsf hsl).symm.trans hs
  cases (exec_readBuffer (s := rewindWith true t) htf htl).symm.trans ht
  exact h.readBufferBody hsc rfl hmax

/-! ### What a REWIND restores -/

/-- Settles O23: a CONFIGURE that succeeds latches its configuration and performs the reset() that the REWIND repeats. -/
theorem rewindRestoresTheConfiguredState : Obligations.RewindRestoresTheConfiguredState := by
  intro s c t hf hexec hresult hl hconf
  cases (exec_configure hf hl).symm.trans hexec
  rcases configureBody_cases s with ⟨e, -, he⟩ | ⟨cf, -, he⟩ <;> rw [he] at hresult hconf ⊢
  · exact absurd hresult (by simp)
  · exact ⟨rfl, congrArg ActiveConf.start hconf, rfl⟩

end Sys2Proof.Machine
end
